-- ==== Sys2Proof/Word.lean ====
section
/-! DEFINITION. The byte of the cell ring (10.1). Everything else the manual counts in numbers, and the model keeps
it as a number: coordinates are integers, counts and times are naturals. -/

namespace Sys2Proof

/-- One byte of a frame (10.1, form "byte"). -/
abbrev Byte := BitVec 8

end Sys2Proof
end

