-- ==== Sys2Proof/Syntax.lean ====
section
/-! DEFINITION. The commands of the part, one constructor of `Instr` for each row of spec/opcode_table.json, and the
names their operands use. -/

namespace Sys2Proof

/-- The two router heads (R73). -/
inductive Head where
  | a
  | b
deriving DecidableEq, Repr

/-- The five mapped nodes, in the order R168 writes their order records. -/
inductive Node where
  | headA
  | headB
  | picker
  | elevator
  | vision
deriving DecidableEq, Repr

/-- The two ring ports (8.1): P faces the line controller, N the next node. -/
inductive Port where
  | p
  | n
deriving DecidableEq, Repr

/-- What a port can receive outside a frame (R163, R164). -/
inductive Symbol where
  /-- a sync marker at the port's rate -/
  | syncMarker
  /-- any other symbol, received without error -/
  | other
  /-- a symbol received in error -/
  | error
deriving DecidableEq, Repr

/-- The lines debounced in both directions (R151). -/
inductive SenseLine where
  | clampSense
  | extractOk
  | laneSense (lane : Fin 4)
deriving DecidableEq, Repr

/-- Every conditioned line (R150). -/
inductive InLine where
  | stopIn
  | sense (line : SenseLine)
deriving DecidableEq, Repr

/-- The two kinds of tab (R3, R6). -/
inductive TabKind where
  | frame
  | shared
deriving DecidableEq, Repr

/-- A tab's orientation: H cuts along x, V along y (R6). -/
inductive Orient where
  | h
  | v
deriving DecidableEq, Repr

/-- A layout item with the operands of R3, as loaded. -/
inductive Item where
  | fiducial (index : Nat) (x y : Int)
  | board (variant : Nat) (dx dy gx gy : Int)
  | tab (kind : TabKind) (orient : Orient) (dx dy : Int) (len feed link : Nat)
  | opn (count : Nat) (dx dy : Int)
  | cls
  | exitAfter (n : Nat)
deriving DecidableEq, Repr

/-- One item of a RECIPE_LOAD body: a layout item, or bytes that name none (R198: a kind byte outside 1..6, or a TAB form
byte with a bit other than 0 and 1 set). -/
inductive LoadItem where
  | known (item : Item)
  | unknown
deriving DecidableEq, Repr

/-- The commands. The first 22 are the handling of one request each (R178): `src` is the source address its reply goes to
(R180), `tag` its tag (R179), and the operands follow in the order of the request table (9.2) as the numbers their bytes
carry (10.6). The others are the events of the part's own work, of the ring, of the lines and of its timers. -/
inductive Instr where
  | recipeLoad (src tag slot offset count : Nat) (items : List LoadItem)
  | recipeCommit (src tag slot count check : Nat)
  | recipeDrop (src tag slot : Nat)
  | panelAnnounce (src tag id slot : Nat) (bad : List Nat)
  | panelStart (src tag : Nat)
  | panelEject (src tag : Nat)
  | panelAbort (src tag id : Nat)
  | cellHold (src tag : Nat)
  | cellResume (src tag : Nat)
  | cellReset (src tag : Nat)
  | laneSet (src tag lane slots : Nat) (variants : BitVec 16) (fill : Nat) (blocked : List Nat)
  | laneRelease (src tag lane : Nat)
  | laneClearJam (src tag lane : Nat)
  | binEmptied (src tag : Nat)
  | rackSet (src tag position state cls wear : Nat)
  | toolChange (src tag head : Nat)
  | paramSet (src tag param value : Nat)
  | paramGet (src tag param : Nat)
  | tableRead (src tag table selector start count : Nat)
  | noticeMask (src tag level : Nat)
  | noticeLevel (src tag cls level : Nat)
  | identify (src tag : Nat)
  | validationEnd (slot : Nat)
  | expansionComplete
  | frameOnPortP (bytes : List Byte)
  | frameOnPortN (bytes : List Byte)
  | lossOfSignal (port : Port)
  | symbolErrorRun (port : Port)
  | portEntersUp (port : Port)
  | trainingTimerExpiry (port : Port)
  | stopInChange (asserted : Bool)
  | lineRawChange (line : SenseLine) (active : Bool)
  | steadyTimerExpiry (line : InLine)
  | stuckTimerExpiry (lane : Fin 4)
  | powerOn (straps : BitVec 6)
  | resetInAsserted
  | resetInReleased (straps : BitVec 6)
  | takeTimeout (node : Node)
  | locateTimeout
  | headTimerExpiry (head : Head)
  | toolTimeout (head : Head)
  | pickTimerExpiry
  | pickerOrderTimeout
  | indexTimeout
  | confirmWindowEnd
  | silenceTimerExpiry
  | contactLoss (node : Node)
  | symbolReceived (port : Port) (symbol : Symbol)
deriving DecidableEq, Repr

end Sys2Proof
end

