-- ==== Sys2Proof/Decode.lean ====
section
/-! DEFINITION. The command a word spells by the bits of spec/opcode_table.json. No row of this table gives bits (the
reader's counts in 98_reader.md: 0 rows with fixed bits, 0 with fields), so no word spells a command. The part's own wire
formats, read from frames, are in Machine/Operands.lean. -/

namespace Sys2Proof

/-- The command that a word of `nbits` bits spells: none, for every word. -/
def decodeTableWord (_nbits _w : Nat) : Option Instr := none

end Sys2Proof
end

