-- ==== Sys2Proof/Config.lean ====
section
/-! DEFINITION. What the manual leaves open and the part still answers with: free values. Nothing constrains them; each
is applied to State's counter `free`, which the step advances when it reads one. -/

namespace Sys2Proof

/-- The tag of the reply to a request whose body holds no byte at all. R179 answers such a request RANGE, and no rule
says which tag the reply carries. DESIGN CHOICE: a free value (notes/assumptions/15.md). -/
opaque Config.missingTag : Nat → Byte

/-- The time a CLOSING confirm window still has to run when TABLE_READ reads it. No clock runs in the model, so the time
since the window began to close is open. DESIGN CHOICE: a free value (notes/assumptions/16.md). -/
opaque Config.windowRemaining : Nat → Nat

end Sys2Proof
end

