-- ==== Sys2Proof/Machine/Params.lean ====
section
/-! DEFINITION. The parameter set (R181): numbers, ranges, defaults and the idle-only mark, as the table gives them. -/

namespace Sys2Proof.Machine

/-- The parameters, in the order of their numbers (R181). -/
inductive Param where
  | splitX | reachAMax | reachBMin | headClearance | leadHead | speedClassA | speedClassB
  | scaleTol | rotLimit | fidTol | locateTimeout | fixtureX | fixtureY
  | bitLife | plungeEquiv | loadFilter | loadLow | loadHigh | lowConfirm | highConfirm | loadBlank
  | maxAttempts | earlyLead | cutTimeout | toolTimeout | gripTimeout | liftTimeout | placeTimeout
  | indexTimeout | takeTimeout | pickTries | placeConfirm | debounce | stuckMs | silenceMs
  | rejectCapacity | nodeAddrA | nodeAddrB | nodeAddrPicker | nodeAddrElevator | nodeAddrVision
  | noticesPerFrame
deriving DecidableEq, Repr

/-- One row of the table of R181. -/
structure ParamRow where
  name : Param
  lo : Nat
  hi : Nat
  dflt : Nat
  idleOnly : Bool
deriving DecidableEq, Repr

/-- The table of R181; a row's place in the list is its number. -/
def paramTable : List ParamRow :=
  [ ⟨.splitX, 150000, 570000, 360000, true⟩,
    ⟨.reachAMax, 200000, 570000, 470000, true⟩,
    ⟨.reachBMin, 150000, 520000, 250000, true⟩,
    ⟨.headClearance, 40000, 150000, 60000, true⟩,
    ⟨.leadHead, 0, 1, 0, true⟩,
    ⟨.speedClassA, 0, 3, 2, true⟩,
    ⟨.speedClassB, 0, 3, 2, true⟩,
    ⟨.scaleTol, 0, 5000, 1000, false⟩,
    ⟨.rotLimit, 0, 91389, 36595, false⟩,
    ⟨.fidTol, 10, 500, 80, false⟩,
    ⟨.locateTimeout, 100, 10000, 3000, false⟩,
    ⟨.fixtureX, 0, 100000, 20000, true⟩,
    ⟨.fixtureY, 0, 100000, 20000, true⟩,
    ⟨.bitLife, 1000, 500000, 60000, false⟩ ] ++
  [ ⟨.plungeEquiv, 0, 50, 2, false⟩,
    ⟨.loadFilter, 0, 4, 2, false⟩,
    ⟨.loadLow, 0, 4094, 300, false⟩,
    ⟨.loadHigh, 1, 4095, 3600, false⟩,
    ⟨.lowConfirm, 1, 16, 3, false⟩,
    ⟨.highConfirm, 1, 16, 2, false⟩,
    ⟨.loadBlank, 0, 5000, 800, false⟩,
    ⟨.maxAttempts, 1, 5, 3, false⟩,
    ⟨.earlyLead, 0, 5000, 0, false⟩,
    ⟨.cutTimeout, 1000, 60000, 10000, false⟩,
    ⟨.toolTimeout, 5000, 120000, 30000, false⟩,
    ⟨.gripTimeout, 200, 10000, 2000, false⟩,
    ⟨.liftTimeout, 200, 10000, 2000, false⟩,
    ⟨.placeTimeout, 200, 10000, 3000, false⟩ ] ++
  [ ⟨.indexTimeout, 200, 20000, 4000, false⟩,
    ⟨.takeTimeout, 5, 200, 20, false⟩,
    ⟨.pickTries, 1, 5, 3, false⟩,
    ⟨.placeConfirm, 50, 2000, 400, false⟩,
    ⟨.debounce, 2, 30, 6, false⟩,
    ⟨.stuckMs, 200, 10000, 1500, false⟩,
    ⟨.silenceMs, 5, 500, 20, false⟩,
    ⟨.rejectCapacity, 1, 250, 100, false⟩,
    ⟨.nodeAddrA, 1, 62, 2, true⟩,
    ⟨.nodeAddrB, 1, 62, 3, true⟩,
    ⟨.nodeAddrPicker, 1, 62, 4, true⟩,
    ⟨.nodeAddrElevator, 1, 62, 5, true⟩,
    ⟨.nodeAddrVision, 1, 62, 6, true⟩,
    ⟨.noticesPerFrame, 1, 2, 1, false⟩ ]

/-- A parameter's number (R181). -/
def Param.num : Param → Nat
  | .splitX => 0 | .reachAMax => 1 | .reachBMin => 2 | .headClearance => 3 | .leadHead => 4
  | .speedClassA => 5 | .speedClassB => 6 | .scaleTol => 7 | .rotLimit => 8 | .fidTol => 9
  | .locateTimeout => 10 | .fixtureX => 11 | .fixtureY => 12 | .bitLife => 13 | .plungeEquiv => 14
  | .loadFilter => 15 | .loadLow => 16 | .loadHigh => 17 | .lowConfirm => 18 | .highConfirm => 19
  | .loadBlank => 20 | .maxAttempts => 21 | .earlyLead => 22 | .cutTimeout => 23 | .toolTimeout => 24
  | .gripTimeout => 25 | .liftTimeout => 26 | .placeTimeout => 27 | .indexTimeout => 28
  | .takeTimeout => 29 | .pickTries => 30 | .placeConfirm => 31 | .debounce => 32 | .stuckMs => 33
  | .silenceMs => 34 | .rejectCapacity => 35 | .nodeAddrA => 36 | .nodeAddrB => 37
  | .nodeAddrPicker => 38 | .nodeAddrElevator => 39 | .nodeAddrVision => 40 | .noticesPerFrame => 41

/-- Every parameter at its default (R181). -/
def defaultParams : List Nat := paramTable.map ParamRow.dflt

end Sys2Proof.Machine
end

