-- ==== Sys2Proof/Machine/State.lean ====
section
/-! DEFINITION. The state of the part, block by block (00, functional overview), its reset value, and the reasons a step
could stop. State is plain data. Every type's docstring names the rule that lists its fields. -/

namespace Sys2Proof.Machine

/-- A point, x then y, in µm (00, numbers and units). -/
structure Pt where
  x : Int
  y : Int
deriving DecidableEq, Repr

/-- One value for each head. -/
structure PerHead (α : Type) where
  a : α
  b : α
deriving DecidableEq, Repr

/-- One value for each mapped node. -/
structure PerNode (α : Type) where
  headA : α
  headB : α
  picker : α
  elevator : α
  vision : α
deriving DecidableEq, Repr

/-- Result codes of replies (9.2, 10.6). -/
inductive Code where
  | ok | clamped | busy | badState | notFound | range | queueFull | tooLong | storeFull | notReady
  | duplicate | notClamped | emptyQueue
  | gap | checkMismatch | unbalanced | depth | fiducialInRepeat | orphanTab | badLink | rangeCoord
  | tooManyBoards | tooManyTabs | tabsPerBoard | noFiducial | dupFiducial | fidTooClose | floatingBoard
deriving DecidableEq, Repr

/-- Why a node is in FAULT: the reasons of R73 (heads), R119 (picker) and R120 (elevator) together. -/
inductive FaultReason where
  | status | contact | take | cutFault | cutTimeout | parkFault | parkTimeout | tool | order | timeout
deriving DecidableEq, Repr

/-! ### The ring interface (08) -/

/-- Where a board goes: a slot of a lane, or the bin (R55, R122). -/
inductive Dest where
  | lane (lane slot : Nat)
  | bin
deriving DecidableEq, Repr

/-- A standing order with its operands (10.3). -/
inductive Order where
  | none
  | cut (panel tab : Nat) (start stop : Pt) (len feed speed : Nat)
  | stop
  | park (x : Int)
  | tool (fetch cls : Nat) (outgoing : Option Nat)
  | pick (panel board variant : Nat) (grip : Pt) (angle : Int)
  | retract
  | lift (panel board : Nat)
  | stay (panel board : Nat)
  | place (panel board : Nat) (dest : Dest)
  | index (lane slot : Nat)
  | locate (panel : Nat) (s0 s1 : Pt) (s2 : Option Pt)
deriving DecidableEq, Repr

/-- Port states (R162). -/
inductive PortState where
  | down | training | up | failed
deriving DecidableEq, Repr

/-- Port rates in Mbit/s (R162). -/
inductive Rate where
  | r100 | r50 | r25
deriving DecidableEq, Repr

/-- A port record (R162). -/
structure PortRec where
  state : PortState
  rate : Option Rate
  timer : Option Nat
  sync : Nat
  errRun : Nat
deriving DecidableEq, Repr

/-- A node record: the outgoing order slot (R169) and the node's contact, latch and reported condition (R172).
`faultReported` is the reported condition: absent, or whether the latest status record reported FAULT. -/
structure NodeRec where
  order : Order
  seq : Nat
  taken : Bool
  completed : Bool
  takeTimer : Option Nat
  present : Bool
  latch : Option FaultReason
  faultReported : Option Bool
  fresh : Bool
  contact : Nat
deriving DecidableEq, Repr

/-- A frame the part sent, and the port it left by. -/
structure Sent where
  port : Port
  bytes : List Byte
deriving DecidableEq, Repr

/-- The ring interface (08). `sent` is the model's own: the frame last sent, which the manual's pins show. -/
structure Ring where
  portP : PortRec
  portN : PortRec
  nodes : PerNode NodeRec
  armed : Bool
  silenceTimer : Option Nat
  silentMark : Bool
  sent : Option Sent
deriving DecidableEq, Repr

/-- Done results of orders (10.4). -/
inductive Result where
  | ok | fault | stopped | alreadyDone | noBit | gripped | missed | dropped | held | alreadyLifted | found | notFound
deriving DecidableEq, Repr

/-! ### The request unit (09) -/

/-- A request's kind with its operands (9.2, 10.6). `malformed` is a body shorter than its kind's operands (R179), with
the kind's number. -/
inductive ReqBody where
  | recipeLoad (slot offset count : Nat) (items : List LoadItem)
  | recipeCommit (slot count check : Nat)
  | recipeDrop (slot : Nat)
  | panelAnnounce (id slot : Nat) (bad : List Nat)
  | panelStart
  | panelEject
  | panelAbort (id : Nat)
  | cellHold
  | cellResume
  | cellReset
  | laneSet (lane slots : Nat) (variants : BitVec 16) (fill : Nat) (blocked : List Nat)
  | laneRelease (lane : Nat)
  | laneClearJam (lane : Nat)
  | binEmptied
  | rackSet (position state cls wear : Nat)
  | toolChange (head : Nat)
  | paramSet (param value : Nat)
  | paramGet (param : Nat)
  | tableRead (table selector start count : Nat)
  | noticeMask (level : Nat)
  | noticeLevel (cls level : Nat)
  | identify
  | malformed (kind : Nat)
deriving DecidableEq, Repr

/-- A request as queued (R176, R179). -/
structure Request where
  src : Nat
  tag : Nat
  body : ReqBody
deriving DecidableEq, Repr

/-- A reply as queued (R180): `dest` is the source of the request it answers, `data` the bytes after byte 2 (10.6). -/
structure Reply where
  dest : Nat
  tag : Nat
  kind : Nat
  code : Code
  data : List Byte
deriving DecidableEq, Repr

/-- The request unit (R176) with the parameter set (R181). -/
structure ReqUnit where
  requests : List Request
  replies : List Reply
  reserved : Nat
  dropped : Nat
  params : List Nat
deriving DecidableEq, Repr

/-! ### The recipe store (01) -/

/-- Recipe slot states (R1). -/
inductive SlotMode where
  | empty | loading | validating | ready | faulty
deriving DecidableEq, Repr

/-- The set of fiducials present (R1). -/
structure FidSet where
  f0 : Bool
  f1 : Bool
  f2 : Bool
deriving DecidableEq, Repr

/-- A validation in flight: the check operand held with it (R11), and what its one reply needs (R15, R180). -/
structure Validation where
  check : Nat
  src : Nat
  tag : Nat
deriving DecidableEq, Repr

/-- A validation result with its detail (R1, R15). -/
structure ValResult where
  code : Code
  detail : Option Nat
deriving DecidableEq, Repr

/-- A recipe slot (R1): `items` is the item table of 512 offsets. -/
structure RecipeSlot where
  mode : SlotMode
  items : List (Option Item)
  declared : Option Nat
  boards : Option Nat
  tabs : Option Nat
  fids : Option FidSet
  result : Option ValResult
  validation : Option Validation
deriving DecidableEq, Repr

/-- The recipe store (R1): eight slots and the store total. -/
structure RecipeStore where
  slots : List RecipeSlot
  total : Nat
deriving DecidableEq, Repr

/-! ### The locator (02) -/

/-- Locator record states (R24). -/
inductive LocState where
  | idle | waiting | measuring | passed | mapped | refused | abandoned
deriving DecidableEq, Repr

/-- Locator outcomes (R24). -/
inductive LocOutcome where
  | pass | scale | rotation | mismatch | notFound | visionFault | timeout
deriving DecidableEq, Repr

/-- A locator record (R24); `timer` is the LOCATE_TIMEOUT interval (R28). -/
structure LocRec where
  state : LocState
  panel : Option Nat
  wantF2 : Bool
  n0 : Option Pt
  n1 : Option Pt
  n2 : Option Pt
  s0 : Option Pt
  s1 : Option Pt
  s2 : Option Pt
  m0 : Option Pt
  m1 : Option Pt
  m2 : Option Pt
  c : Option Int
  s : Option Int
  angle : Option Int
  outcome : Option LocOutcome
  detail : Option Nat
  timer : Option Nat
deriving DecidableEq, Repr

/-- The record in state IDLE: all other fields absent (R24). -/
def LocRec.free : LocRec :=
  { state := .idle, panel := none, wantF2 := false, n0 := none, n1 := none, n2 := none, s0 := none, s1 := none,
    s2 := none, m0 := none, m1 := none, m2 := none, c := none, s := none, angle := none, outcome := none,
    detail := none, timer := none }

/-- The locator: a record for the active panel and one for the closing panel (2.1). -/
structure Locator where
  active : LocRec
  closing : LocRec
deriving DecidableEq, Repr

/-! ### The panel tracker (03) -/

/-- An entry of the announce queue (R41). -/
structure Announce where
  id : Nat
  slot : Nat
  bad : List Nat
deriving DecidableEq, Repr

/-- Panel states (R43). -/
inductive PanelState where
  | locating | cutting | done | refused | closing
deriving DecidableEq, Repr

/-- The halves of the board table (R43). -/
inductive Half where
  | h0 | h1
deriving DecidableEq, Repr

/-- Abort marks (R43). -/
inductive AbortMark where
  | aborted | unclamped
deriving DecidableEq, Repr

/-- Stop reasons, as given with PANEL_STOPPED (R46, R51, R54). -/
inductive StopReason where
  | scale | rotation | mismatch | notFound | visionFault | timeout | aborted | unclamped
deriving DecidableEq, Repr

/-- A tally (R43). -/
structure Tally where
  stacked : Nat
  binned : Nat
  retained : Nat
  lost : Nat
deriving DecidableEq, Repr

/-- A panel record (R43). -/
structure Panel where
  id : Nat
  slot : Nat
  bad : List Nat
  state : PanelState
  boardCount : Nat
  tabCount : Nat
  half : Half
  expanding : Bool
  pendingLoc : Option LocOutcome
  abort : Option AbortMark
  stop : Option StopReason
  tally : Tally
deriving DecidableEq, Repr

/-- Reasons of RETAINED (R55). -/
inductive RetainReason where
  | unreachable | tabFailed | pickFailed | binFull | aborted | fiducial
deriving DecidableEq, Repr

/-- Reasons of LOST (R55). -/
inductive LostReason where
  | unconfirmed | dropped | pickerFault | torn
deriving DecidableEq, Repr

/-- Board states (R55). -/
inductive BoardState where
  | attached | ready | gripWait | gripped | releasing | free | inTransit | stacked | binned
  | retained (why : RetainReason)
  | lost (why : LostReason)
deriving DecidableEq, Repr

/-- A board record (R55). -/
structure Board where
  index : Nat
  variant : Nat
  bad : Bool
  state : BoardState
  openTabs : Nat
  releaseTab : Nat
  nominal : Pt
  corrected : Option Pt
  unreachable : Bool
  attempts : Nat
  dest : Option Dest
deriving DecidableEq, Repr

/-- The id and counts of a closed panel (R43). -/
structure ClosedTally where
  id : Nat
  tally : Tally
deriving DecidableEq, Repr

/-- The two panels the part can hold at once (03, introduction). -/
inductive PanelRef where
  | active | closing
deriving DecidableEq, Repr

/-- The panel tracker (03). -/
structure Tracker where
  announce : List Announce
  active : Option Panel
  closing : Option Panel
  half0 : List Board
  half1 : List Board
  pickQueue : List Nat
  lastTally : Option ClosedTally
  totalStacked : Nat
deriving DecidableEq, Repr

/-! ### The cut dispatcher (04) -/

/-- Tab states (R70). -/
inductive TabState where
  | pending | queued | held | ordered | done | skipped | failed
deriving DecidableEq, Repr

/-- Skip reasons (R70). -/
inductive SkipReason where
  | unreachable | withdrawn
deriving DecidableEq, Repr

/-- Where a QUEUED tab stands (R70). -/
inductive Place where
  | queueA | queueB | unassigned
deriving DecidableEq, Repr

/-- How a tab's last cut ended, as TAB_FAILED carries it (R93). -/
inductive CutHow where
  | broken | overload | cutFault | cutTimeout | take | status | contact | hold | abort
deriving DecidableEq, Repr

/-- A settlement pending (R70, R94): the head whose cut ended, whether it ended by STOPPED, and how. -/
structure Settlement where
  head : Head
  stopped : Bool
  how : CutHow
deriving DecidableEq, Repr

/-- A tab entry (R70). That a release tab's attempts are not held at 5 is the model's choice (notes/assumptions/58.md). -/
structure Tab where
  index : Nat
  kind : TabKind
  owner : Nat
  linked : Option Nat
  release : Bool
  nomStart : Pt
  nomEnd : Pt
  corStart : Option Pt
  corEnd : Option Pt
  unreachable : Bool
  len : Nat
  feed : Nat
  attempts : Nat
  state : TabState
  skipReason : Option SkipReason
  standing : Bool
  place : Option Place
  cutHead : Option Head
  settlement : Option Settlement
  lastCut : Option (Head × Nat)
  peak : Option Nat
deriving DecidableEq, Repr

/-- Head states (R73). -/
inductive HeadState where
  | offline | idle | cutting | stopping | parking | changing | noTool | fault
deriving DecidableEq, Repr

/-- Stop causes (R73). -/
inductive StopCause where
  | hold | abort | broken | overload | reset
deriving DecidableEq, Repr

/-- A head record (R73). -/
structure HeadRec where
  state : HeadState
  reason : Option FaultReason
  x : Option Int
  tab : Option Nat
  cause : Option StopCause
  timer : Option Nat
  queue : List Nat
deriving DecidableEq, Repr

/-- The cut dispatcher (04): the tab entries of the active and of the closing panel, the heads, the unassigned list and
the pairing mode (`paired`: PAIRED, else SINGLE). -/
structure Dispatcher where
  tabs : List Tab
  closingTabs : List Tab
  heads : PerHead HeadRec
  unassigned : List Nat
  paired : Bool
deriving DecidableEq, Repr

/-! ### The spindle monitor (05) -/

/-- A filter record (R99). `len` is the model's own: L of the cut in hand, which R105 needs also for a cut whose tab
CELL_RESET has freed (notes/assumptions/19.md). -/
structure Filter where
  shift : Nat
  sum : Nat
  count : Nat
  last : Option Nat
  low : Nat
  high : Nat
  peak : Option Nat
  remaining : Option Nat
  len : Nat
deriving DecidableEq, Repr

/-- Rack position states (R107). -/
inductive RackMode where
  | empty | spare | mounted | worn | broken
deriving DecidableEq, Repr

/-- A rack position (R107). -/
structure RackPos where
  mode : RackMode
  head : Option Head
  brokenMark : Bool
  engaged : Option Head
  cls : Nat
  wear : Nat
  cuts : Nat
deriving DecidableEq, Repr

/-- Order states of a change (R110). -/
inductive ChangeState where
  | awaitingRun | out | taken
deriving DecidableEq, Repr

/-- A change record (R110), with the mark that the outgoing position is returned (R113) and the TOOL_TIMEOUT interval
(R111). -/
structure Change where
  outgoing : Option Nat
  returned : Bool
  fetch : Option Nat
  state : ChangeState
  timer : Option Nat
deriving DecidableEq, Repr

/-- The spindle monitor (05). -/
structure Spindle where
  filters : PerHead Filter
  rack : List RackPos
  due : PerHead Bool
  change : PerHead (Option Change)
  waiting : List Head
deriving DecidableEq, Repr

/-! ### The handover and stacking unit (06) -/

/-- Picker states (R119). -/
inductive PickerState where
  | offline | idle | serving | fault
deriving DecidableEq, Repr

/-- Kinds of picker order (R119). -/
inductive PickerOrder where
  | pick | retract | lift | stay | place
deriving DecidableEq, Repr

/-- The picker record (R119). `retractDue` is a withdrawal RETRACT that waits for RUN (R128, R129). -/
structure PickerRec where
  state : PickerState
  reason : Option FaultReason
  order : Option (PickerOrder × Nat)
  timer : Option Nat
  retractDue : Bool
deriving DecidableEq, Repr

/-- Elevator states (R120). -/
inductive ElevatorState where
  | offline | idle | indexing | fault
deriving DecidableEq, Repr

/-- An outstanding INDEX (R120). -/
structure IndexOut where
  lane : Nat
  slot : Nat
  seq : Nat
deriving DecidableEq, Repr

/-- The elevator record (R120). -/
structure ElevatorRec where
  state : ElevatorState
  reason : Option FaultReason
  order : Option IndexOut
  timer : Option Nat
deriving DecidableEq, Repr

/-- Index states of the service (R122). -/
inductive IndexState where
  | notNeeded | out | done | waiting
deriving DecidableEq, Repr

/-- Early lift states of the service (R122). -/
inductive EarlyLift where
  | none | out | lifted | dropped
deriving DecidableEq, Repr

/-- An open or closing confirm window (R122, R137); `ms` is the PLACE_CONFIRM value a closing one was given. -/
inductive Window where
  | opened
  | closing (ms : Nat)
deriving DecidableEq, Repr

/-- The picker service while it serves a board (R122). -/
structure Service where
  panel : Nat
  board : Nat
  dest : Dest
  index : IndexState
  early : EarlyLift
  contingency : Bool
  torn : Bool
  window : Option Window
deriving DecidableEq, Repr

/-- Lane states (R140). -/
inductive LaneState where
  | absent | active | full | jammed
deriving DecidableEq, Repr

/-- Fill orders (R140). -/
inductive FillOrder where
  | bottomUp | topDown
deriving DecidableEq, Repr

/-- Magazine slot states (R140). -/
inductive SlotState where
  | empty | reserved | filled | suspect | blocked
deriving DecidableEq, Repr

/-- A lane record (R140); the slot count is the number of slots. -/
structure Lane where
  state : LaneState
  slots : List SlotState
  variants : BitVec 16
  fill : FillOrder
  filled : Nat
  suspect : Nat
deriving DecidableEq, Repr

/-- The handover and stacking unit (06). -/
structure Handover where
  picker : PickerRec
  elevator : ElevatorRec
  service : Option Service
  lanes : List Lane
  binFilled : Nat
  binReserved : Nat
deriving DecidableEq, Repr

/-! ### The line conditioner (07) -/

/-- A line record (R150) with its pin: raw level, conditioned state (true: active, or asserted), steady timer. -/
structure Line where
  raw : Bool
  cond : Bool
  timer : Option Nat
deriving DecidableEq, Repr

/-- A lane sensor's line record with its stuck timer and stuck flag (R150). -/
structure LaneLine where
  line : Line
  stuckTimer : Option Nat
  stuck : Bool
deriving DecidableEq, Repr

/-- The hold cause set (R155). -/
structure Causes where
  request : Bool
  stop : Bool
  silence : Bool
deriving DecidableEq, Repr

/-- The line conditioner (07), the strap address and RESET_IN (R154). -/
structure Lines where
  stopIn : Line
  clamp : Line
  extract : Line
  lanes : List LaneLine
  causes : Causes
  strap : Nat
  inReset : Bool
deriving DecidableEq, Repr

/-! ### The notice unit (09) -/

/-- What a notice carries, one constructor for each class of R190, in class order. -/
inductive Detail where
  | stopLatched
  | ringSilence
  | headFault (head : Head) (reason : FaultReason)
  | pickerFault (reason : FaultReason) (served : Option (Nat × Nat))
  | elevatorFault (reason : FaultReason)
  | laneJam (lane : Nat)
  | panelStopped (panel : Nat) (reason : StopReason)
  | tabFailed (panel tab : Nat) (how : CutHow)
  | bitBroken (head : Head) (position panel tab : Nat)
  | noTool (head : Head)
  | magazineFull (variant : Nat)
  | binFull (filled reserved : Nat)
  | pairFault (test : Nat)
  | panelDone (panel : Nat)
  | panelClosed (panel : Nat) (tally : Tally)
  | boardLost (panel board : Nat) (reason : LostReason)
  | extraction
  | laneStray (lane : Nat)
  | portState (port : Port) (state : PortState) (rate : Option Rate)
  | toolWorn (position : Nat) (head : Head) (wear cuts : Nat)
deriving DecidableEq, Repr

/-- A class record (R190). -/
structure NoticeRec where
  pending : Bool
  merge : Nat
  detail : Option Detail
  level : Nat
deriving DecidableEq, Repr

/-- The notice unit (R190): the class records in class order, and the mask level. -/
structure NoticeUnit where
  recs : List NoticeRec
  mask : Nat
deriving DecidableEq, Repr

/-! ### The event in hand -/

/-- The model's own marks, all clear between events (notes/assumptions/10.md and 23.md): pick selection is to be tried at the
end of the event (R123); the heads that left service in it (R80); both heads leave in it (R80); the tab that
the ended cut of each head on its way out of service left in its queue (R95). -/
structure EventMarks where
  select : Bool
  left : PerHead Bool
  bothLeave : Bool
  settled : PerHead (Option Nat)
deriving DecidableEq, Repr

/-- No mark set. -/
def EventMarks.clear : EventMarks :=
  { select := false, left := ⟨false, false⟩, bothLeave := false, settled := ⟨none, none⟩ }

/-! ### The state -/

/-- The state of the part. `pending` is the queue of commands that wait; `free` is the counter free values are drawn with. -/
structure State where
  pending : List Instr
  ring : Ring
  req : ReqUnit
  notices : NoticeUnit
  recipes : RecipeStore
  locator : Locator
  tracker : Tracker
  disp : Dispatcher
  spindle : Spindle
  hand : Handover
  lines : Lines
  ev : EventMarks
  free : Nat
deriving DecidableEq, Repr

/-- Why a step could stop. The part stops on no command: every fault the manual names is a state of a node, a panel or a
board, or a result code. So this type has no constructor, and nothing raises one. -/
inductive Fault where
deriving DecidableEq, Repr

/-- Why the model could refuse a command. -/
inductive Refusal where
  /-- Raised by no arm of `exec`: every command of the table has its meaning. It would be raised for a command without one,
  which is safe: no claim about that command's effect could be proved. -/
  | notModelled (mnemonic : String)
deriving DecidableEq, Repr

/-! ### Reset values -/

/-- A port that has begun training (R163). -/
def PortRec.training : PortRec := { state := .training, rate := some .r100, timer := some 2, sync := 0, errRun := 0 }

/-- A node record after power-on (R169, R173). -/
def NodeRec.reset : NodeRec :=
  { order := .none, seq := 0, taken := false, completed := false, takeTimer := none, present := false, latch := none,
    faultReported := none, fresh := false, contact := 0 }

/-- A head after power-on (R73). -/
def HeadRec.reset : HeadRec :=
  { state := .offline, reason := none, x := none, tab := none, cause := none, timer := none, queue := [] }

/-- A filter record in the reset state, with a block shift of 2 (R99). -/
def Filter.reset : Filter :=
  { shift := 2, sum := 0, count := 0, last := none, low := 0, high := 0, peak := none, remaining := none, len := 0 }

/-- A recipe slot after power-on (R1). -/
def RecipeSlot.reset : RecipeSlot :=
  { mode := .empty, items := List.replicate 512 none, declared := none, boards := none, tabs := none, fids := none,
    result := none, validation := none }

/-- A rack position after power-on (R107). -/
def RackPos.reset : RackPos :=
  { mode := .empty, head := none, brokenMark := false, engaged := none, cls := 0, wear := 0, cuts := 0 }

/-- An ABSENT lane (R140, R142). Its fill order BOTTOM_UP, its empty accepted-variant set, and its filled and suspect counts,
held and shown as 0 and not as absent, are the model's choice (notes/assumptions/33.md). -/
def Lane.absent : Lane :=
  { state := .absent, slots := [], variants := 0, fill := .bottomUp, filled := 0, suspect := 0 }

/-- Default levels of the notice classes, in class order (R190). -/
def defaultLevels : List Nat := [3, 3, 3, 3, 3, 2, 2, 2, 2, 2, 2, 2, 1, 1, 1, 1, 1, 0, 0, 0]

/-- A class record after power-on: nothing pending (R190). -/
def NoticeRec.reset (level : Nat) : NoticeRec := { pending := false, merge := 0, detail := none, level := level }

/-- The request unit after power-on (R176, R181). -/
def ReqUnit.reset : ReqUnit := { requests := [], replies := [], reserved := 0, dropped := 0, params := defaultParams }

/-- The recipe store after power-on (R1). -/
def RecipeStore.reset : RecipeStore := { slots := List.replicate 8 RecipeSlot.reset, total := 0 }

/-- The panel tracker after power-on (R41, R43, R62). -/
def Tracker.reset : Tracker :=
  { announce := [], active := none, closing := none, half0 := [], half1 := [], pickQueue := [], lastTally := none,
    totalStacked := 0 }

/-- The cut dispatcher after power-on (R70, R73, R75, R77). -/
def Dispatcher.reset : Dispatcher :=
  { tabs := [], closingTabs := [], heads := ⟨HeadRec.reset, HeadRec.reset⟩, unassigned := [], paired := false }

/-- The spindle monitor after power-on (R99, R107, R115). -/
def Spindle.reset : Spindle :=
  { filters := ⟨Filter.reset, Filter.reset⟩, rack := List.replicate 8 RackPos.reset, due := ⟨false, false⟩,
    change := ⟨none, none⟩, waiting := [] }

/-- The handover unit after power-on (R119, R120, R122, R140, R144). -/
def Handover.reset : Handover :=
  { picker := { state := .offline, reason := none, order := none, timer := none, retractDue := false },
    elevator := { state := .offline, reason := none, order := none, timer := none }, service := none,
    lanes := List.replicate 4 Lane.absent, binFilled := 0, binReserved := 0 }

/-- The ring interface after power-on, both ports training (R162, R163, R169, R173, R174). That a silence watch not yet armed
holds a clear mark and no timer is the model's choice (notes/assumptions/65.md). -/
def Ring.reset : Ring :=
  { portP := PortRec.training, portN := PortRec.training,
    nodes := ⟨NodeRec.reset, NodeRec.reset, NodeRec.reset, NodeRec.reset, NodeRec.reset⟩, armed := false,
    silenceTimer := none, silentMark := false, sent := none }

/-- The notice unit after power-on, with nothing pending (R190). -/
def NoticeUnit.reset : NoticeUnit := { recs := defaultLevels.map NoticeRec.reset, mask := 0 }

/-- The notice unit once both ports have begun training: PORT_STATE is pending, raised for port P and then for port N
(R162, R163, R191; the order is the model's, notes/assumptions/7.md). -/
def NoticeUnit.started : NoticeUnit :=
  { recs := (defaultLevels.map NoticeRec.reset).set 18
      { pending := true, merge := 1, detail := some (.portState .n .training (some .r100)), level := 0 },
    mask := 0 }

/-- A line whose pin shows its conditioned state (R150; the pin is the model's choice, notes/assumptions/6.md). -/
def Line.steady (level : Bool) : Line := { raw := level, cond := level, timer := none }

/-- The line conditioner after power-on (R150, R155): HELD with the cause set REQUEST. The strap address is the model's
choice (notes/assumptions/5.md). -/
def Lines.reset : Lines :=
  { stopIn := Line.steady true, clamp := Line.steady false, extract := Line.steady false,
    lanes := List.replicate 4 { line := Line.steady false, stuckTimer := none, stuck := false },
    causes := { request := true, stop := false, silence := false }, strap := 10, inReset := false }

/-- The part right after reset: every block at its reset values and both ports training (R154). -/
def State.reset : State :=
  { pending := [], ring := Ring.reset, req := ReqUnit.reset, notices := NoticeUnit.started, recipes := RecipeStore.reset,
    locator := ⟨LocRec.free, LocRec.free⟩, tracker := Tracker.reset, disp := Dispatcher.reset, spindle := Spindle.reset,
    hand := Handover.reset, lines := Lines.reset, ev := EventMarks.clear, free := 0 }

end Sys2Proof.Machine
end

