-- ==== Sys2Proof/Machine/Flags.lean ====
section
/-! DEFINITION. The flags of the part: a notice class's pending flag with its merge count and detail (R190, R191), the hold
cause set and the cell state it gives (R155), and the accessors of values kept per head and per node. -/

namespace Sys2Proof

open Machine in
/-- The class number of a notice (R190). -/
def Machine.Detail.cls : Detail → Nat
  | .stopLatched => 0
  | .ringSilence => 1
  | .headFault _ _ => 2
  | .pickerFault _ _ => 3
  | .elevatorFault _ => 4
  | .laneJam _ => 5
  | .panelStopped _ _ => 6
  | .tabFailed _ _ _ => 7
  | .bitBroken _ _ _ _ => 8
  | .noTool _ => 9
  | .magazineFull _ => 10
  | .binFull _ _ => 11
  | .pairFault _ => 12
  | .panelDone _ => 13
  | .panelClosed _ _ => 14
  | .boardLost _ _ _ => 15
  | .extraction => 16
  | .laneStray _ => 17
  | .portState _ _ _ => 18
  | .toolWorn _ _ _ _ => 19

/-- The other head. -/
def Head.other : Head → Head
  | .a => .b
  | .b => .a

/-- A head's mapped node. -/
def Head.node : Head → Node
  | .a => .headA
  | .b => .headB

/-- The mapped nodes in the order of R168. -/
def Node.all : List Node := [.headA, .headB, .picker, .elevator, .vision]

end Sys2Proof

namespace Sys2Proof.Machine

/-- A head's value. -/
def PerHead.get {α : Type} (p : PerHead α) : Head → α
  | .a => p.a
  | .b => p.b

/-- The values with one head's replaced. -/
def PerHead.set {α : Type} (p : PerHead α) (h : Head) (v : α) : PerHead α :=
  match h with
  | .a => { p with a := v }
  | .b => { p with b := v }

/-- A node's value. -/
def PerNode.get {α : Type} (p : PerNode α) : Node → α
  | .headA => p.headA
  | .headB => p.headB
  | .picker => p.picker
  | .elevator => p.elevator
  | .vision => p.vision

/-- The values with one node's replaced. -/
def PerNode.set {α : Type} (p : PerNode α) (n : Node) (v : α) : PerNode α :=
  match n with
  | .headA => { p with headA := v }
  | .headB => { p with headB := v }
  | .picker => { p with picker := v }
  | .elevator => { p with elevator := v }
  | .vision => { p with vision := v }

/-- A class record taking an event (R191). -/
def NoticeRec.raise (d : Detail) (r : NoticeRec) : NoticeRec :=
  if r.pending then { r with merge := min 255 (r.merge + 1), detail := some d }
  else { r with pending := true, merge := 0, detail := some d }

/-- A class record once its notice is sent, or cleared by CELL_RESET (R190, R192). -/
def NoticeRec.clear (r : NoticeRec) : NoticeRec := { r with pending := false, merge := 0, detail := none }

/-- An event raises a notice in its class (R191). -/
def raise (d : Detail) (s : State) : State :=
  { s with notices := { s.notices with recs := s.notices.recs.modify d.cls (NoticeRec.raise d) } }

/-- No hold cause is in the set (R155). -/
def Causes.isEmpty (c : Causes) : Bool := !c.request && !c.stop && !c.silence

/-- The cell is in RUN: the hold cause set is empty (R155). -/
def State.running (s : State) : Bool := s.lines.causes.isEmpty

/-- The value of a parameter in force (R181). -/
def State.param (s : State) (p : Param) : Nat := s.req.params.getD p.num 0

/-- The lead head, named by LEAD_HEAD: 0 for A, 1 for B (R181). -/
def State.lead (s : State) : Head := if s.param .leadHead = 1 then .b else .a

/-- The follow head: the other one (00, names). -/
def State.follow (s : State) : Head := s.lead.other

end Sys2Proof.Machine
end

