-- ==== Sys2Proof/Machine/Ops.lean ====
section
/-! DEFINITION. The named operations over the part's tables: node records and their order slots, heads, tabs, boards, panels,
rack positions, the picker service, lanes, the bin, the reply queue. Every meaning reads and writes State through them. -/

namespace Sys2Proof.Machine

/-! ### Node records and standing orders (R169, R172) -/

/-- A node's record. -/
def State.node (s : State) (n : Node) : NodeRec := s.ring.nodes.get n

/-- The state with a node's record replaced. -/
def State.setNode (s : State) (n : Node) (r : NodeRec) : State :=
  { s with ring := { s.ring with nodes := s.ring.nodes.set n r } }

/-- The next sequence number: 1 after 0, one more from 1 to 254, 1 after 255 (R169). -/
def nextSeq (seq : Nat) : Nat := if seq = 255 then 1 else seq + 1

/-- A node record with a new order in its slot: the next sequence number, marks clear, and the take timer started with
`take` unless the order is NONE (R169). -/
def NodeRec.write (o : Order) (take : Nat) (r : NodeRec) : NodeRec :=
  { r with
    order := o, seq := nextSeq r.seq, taken := false, completed := false,
    takeTimer := if o = .none then none else some take }

/-- The owning block writes a new order into a node's slot (R169). -/
def writeOrder (n : Node) (o : Order) (s : State) : State :=
  s.setNode n ((s.node n).write o (s.param .takeTimeout))

/-- A node record with its fault latch set: a latch already set keeps its first reason; setting it clears the fresh mark and
stops the take timer (R170, R172). -/
def NodeRec.latched (why : FaultReason) (r : NodeRec) : NodeRec :=
  match r.latch with
  | some _ => r
  | none => { r with latch := some why, fresh := false, takeTimer := none }

/-- The ring interface sets a node's latch (R172). -/
def setLatch (n : Node) (why : FaultReason) (s : State) : State := s.setNode n ((s.node n).latched why)

/-! ### Replies (R178, R180) -/

/-- The reply queue has room: replies held and places promised are below 8 (R176). -/
def State.replyRoom (s : State) : Bool := s.req.replies.length + s.req.reserved < 8

/-- A reply joins the back of the reply queue (R178). -/
def pushReply (r : Reply) (s : State) : State := { s with req := { s.req with replies := s.req.replies ++ [r] } }

/-! ### Panels and boards (R43, R55) -/

/-- The active or the closing panel's record. -/
def State.panel (s : State) : PanelRef → Option Panel
  | .active => s.tracker.active
  | .closing => s.tracker.closing

/-- The state with one panel's record changed, when it exists. -/
def State.modPanel (s : State) (ref : PanelRef) (f : Panel → Panel) : State :=
  match ref with
  | .active => { s with tracker := { s.tracker with active := s.tracker.active.map f } }
  | .closing => { s with tracker := { s.tracker with closing := s.tracker.closing.map f } }

/-- A half of the board table. -/
def State.half (s : State) : Half → List Board
  | .h0 => s.tracker.half0
  | .h1 => s.tracker.half1

/-- The state with a half of the board table replaced. -/
def State.setHalf (s : State) (h : Half) (l : List Board) : State :=
  match h with
  | .h0 => { s with tracker := { s.tracker with half0 := l } }
  | .h1 => { s with tracker := { s.tracker with half1 := l } }

/-- The board records of a panel; none when it does not exist. -/
def State.boards (s : State) (ref : PanelRef) : List Board :=
  match s.panel ref with
  | some p => s.half p.half
  | none => []

/-- A board's record. -/
def State.board (s : State) (ref : PanelRef) (b : Nat) : Option Board := (s.boards ref)[b]?

/-- The state with a board's record changed, when it exists. -/
def State.modBoard (s : State) (ref : PanelRef) (b : Nat) (f : Board → Board) : State :=
  match s.panel ref with
  | some p => s.setHalf p.half ((s.half p.half).modify b f)
  | none => s

/-- A board's state; none when there is no such board. -/
def State.boardState (s : State) (ref : PanelRef) (b : Nat) : Option BoardState :=
  (s.board ref b).map Board.state

/-- A board's state written. -/
def setBoardState (ref : PanelRef) (b : Nat) (st : BoardState) (s : State) : State :=
  s.modBoard ref b fun r => { r with state := st }

/-- The panel with an id: ids are unique across the active and the closing panel (R42). -/
def State.panelRef (s : State) (id : Nat) : Option PanelRef :=
  match s.tracker.active with
  | some p =>
    if p.id = id then some .active
    else match s.tracker.closing with
      | some q => if q.id = id then some .closing else none
      | none => none
  | none =>
    match s.tracker.closing with
    | some q => if q.id = id then some .closing else none
    | none => none

/-- The active panel is CUTTING. -/
def State.cutting (s : State) : Bool :=
  match s.tracker.active with
  | some p => p.state == .cutting
  | none => false

/-- The active panel's id; 0 when there is none (read only where there is one). -/
def State.activeId (s : State) : Nat :=
  match s.tracker.active with
  | some p => p.id
  | none => 0

/-- The active panel carries an abort mark (R43). -/
def State.abortMarked (s : State) : Bool :=
  match s.tracker.active with
  | some p => p.abort.isSome
  | none => false

/-- A board leaves the pick queue, and the others keep their order (R62). -/
def leavePickQueue (b : Nat) (s : State) : State :=
  { s with tracker := { s.tracker with pickQueue := s.tracker.pickQueue.filter (· != b) } }

/-- Pick selection is to be tried at the end of this event (R123). -/
def askSelect (s : State) : State := { s with ev := { s.ev with select := true } }

/-- A board joins the back of the pick queue; selection is tried (R62, R123). -/
def joinPickBack (b : Nat) (s : State) : State :=
  askSelect { s with tracker := { s.tracker with pickQueue := s.tracker.pickQueue ++ [b] } }

/-- A board joins the front of the pick queue; selection is tried (R62, R123). -/
def joinPickFront (b : Nat) (s : State) : State :=
  askSelect { s with tracker := { s.tracker with pickQueue := b :: s.tracker.pickQueue } }

/-! ### Tabs (R70) -/

/-- A tab entry of the active panel. -/
def State.tab (s : State) (i : Nat) : Option Tab := s.disp.tabs[i]?

/-- The state with a tab entry changed, when it exists. -/
def State.modTab (s : State) (i : Nat) (f : Tab → Tab) : State :=
  { s with disp := { s.disp with tabs := s.disp.tabs.modify i f } }

/-- The tab joins the board: it owns it, or is linked to it (R6). -/
def Tab.joins (t : Tab) (b : Nat) : Bool := t.owner == b || t.linked == some b

/-! ### Heads (R73) -/

/-- A head's record. -/
def State.head (s : State) (h : Head) : HeadRec := s.disp.heads.get h

/-- The state with a head's record replaced. -/
def State.setHead (s : State) (h : Head) (r : HeadRec) : State :=
  { s with disp := { s.disp with heads := s.disp.heads.set h r } }

/-- The state with a head's record changed. -/
def State.modHead (s : State) (h : Head) (f : HeadRec → HeadRec) : State := s.setHead h (f (s.head h))

/-- A head's state written. -/
def setHeadState (h : Head) (st : HeadState) (s : State) : State := s.modHead h fun r => { r with state := st }

/-- The head states in service (R73). -/
def HeadState.inService : HeadState → Bool
  | .idle => true
  | .cutting => true
  | .stopping => true
  | .parking => true
  | .changing => true
  | .offline => false
  | .noTool => false
  | .fault => false

/-- A head is in service by its state (R73). -/
def State.inService (s : State) (h : Head) : Bool := (s.head h).state.inService

/-- A head counts as in service for an assignment: not when both heads leave service in this event (R76, R80). -/
def State.takesTabs (s : State) (h : Head) : Bool := !s.ev.bothLeave && s.inService h

/-! ### The spindle monitor's tables (R99, R107) -/

/-- A head's filter record. -/
def State.filter (s : State) (h : Head) : Filter := s.spindle.filters.get h

/-- The state with a head's filter record replaced. -/
def State.setFilter (s : State) (h : Head) (f : Filter) : State :=
  { s with spindle := { s.spindle with filters := s.spindle.filters.set h f } }

/-- A rack position. -/
def State.rackAt (s : State) (i : Nat) : Option RackPos := s.spindle.rack[i]?

/-- The state with a rack position changed, when it exists. -/
def State.modRack (s : State) (i : Nat) (f : RackPos → RackPos) : State :=
  { s with spindle := { s.spindle with rack := s.spindle.rack.modify i f } }

/-- A head's change due flag. -/
def State.due (s : State) (h : Head) : Bool := s.spindle.due.get h

/-- The state with a head's change due flag written. -/
def State.setDue (s : State) (h : Head) (v : Bool) : State :=
  { s with spindle := { s.spindle with due := s.spindle.due.set h v } }

/-- A head's change record. -/
def State.change (s : State) (h : Head) : Option Change := s.spindle.change.get h

/-- The state with a head's change record written. -/
def State.setChange (s : State) (h : Head) (c : Option Change) : State :=
  { s with spindle := { s.spindle with change := s.spindle.change.set h c } }

/-! ### The bin (R144) -/

/-- The bin has a free place: filled plus reserved is below REJECT_CAPACITY (R58, R131). -/
def State.binRoom (s : State) : Bool := s.hand.binFilled + s.hand.binReserved < s.param .rejectCapacity

/-- A bin place is reserved; BIN_FULL is raised when that makes the sum equal to REJECT_CAPACITY (R144). -/
def reserveBin (s : State) : State :=
  let s := { s with hand := { s.hand with binReserved := s.hand.binReserved + 1 } }
  if s.hand.binFilled + s.hand.binReserved = s.param .rejectCapacity then
    raise (.binFull s.hand.binFilled s.hand.binReserved) s
  else s

/-- A reserved bin place is given up (R144). -/
def releaseBin (s : State) : State := { s with hand := { s.hand with binReserved := s.hand.binReserved - 1 } }

/-- A reserved bin place becomes filled: the reserved count falls by one and the filled count rises by one (R134, R138). -/
def fillBin (s : State) : State :=
  if s.hand.binReserved = 0 then s
  else { s with hand := { s.hand with binReserved := s.hand.binReserved - 1, binFilled := s.hand.binFilled + 1 } }

/-! ### Lanes (R140) -/

/-- A lane's record. -/
def State.lane (s : State) (k : Nat) : Option Lane := s.hand.lanes[k]?

/-- The state with a lane's record changed, when it exists. -/
def State.modLane (s : State) (k : Nat) (f : Lane → Lane) : State :=
  { s with hand := { s.hand with lanes := s.hand.lanes.modify k f } }

/-- A slot state stands in the lane. -/
def Lane.has (st : SlotState) (l : Lane) : Bool := l.slots.any (· == st)

/-- The FULL test of R140: an ACTIVE lane with no EMPTY and no RESERVED slot becomes FULL. -/
def Lane.testFull (l : Lane) : Lane :=
  if l.state = .active ∧ l.has .empty = false ∧ l.has .reserved = false then { l with state := .full } else l

/-- The state of a lane's slot. -/
def State.slot (s : State) (k i : Nat) : Option SlotState := (s.lane k).bind fun l => l.slots[i]?

/-- A RESERVED slot returns to EMPTY (R126, R128, R134, R145); selection is tried (R123). -/
def releaseSlot (d : Dest) (s : State) : State :=
  match d with
  | .bin => s
  | .lane k i =>
    if s.slot k i = some .reserved then
      askSelect (s.modLane k fun l => { l with slots := l.slots.set i .empty })
    else s

/-- A RESERVED slot becomes SUSPECT, its lane's suspect count rises, and the lane's FULL condition is tested (R137). -/
def suspectSlot (d : Dest) (s : State) : State :=
  match d with
  | .bin => s
  | .lane k i =>
    if s.slot k i = some .reserved then
      s.modLane k fun l => ({ l with slots := l.slots.set i .suspect, suspect := l.suspect + 1 } : Lane).testFull
    else s

/-- A RESERVED slot becomes FILLED, its lane's filled count rises, and the lane's FULL condition is tested (R137). -/
def fillSlot (d : Dest) (s : State) : State :=
  match d with
  | .bin => s
  | .lane k i =>
    if s.slot k i = some .reserved then
      s.modLane k fun l => ({ l with slots := l.slots.set i .filled, filled := l.filled + 1 } : Lane).testFull
    else s

/-! ### The picker service (R122) -/

/-- The picker's record changed. -/
def State.modPicker (s : State) (f : PickerRec → PickerRec) : State :=
  { s with hand := { s.hand with picker := f s.hand.picker } }

/-- The elevator's record changed. -/
def State.modElevator (s : State) (f : ElevatorRec → ElevatorRec) : State :=
  { s with hand := { s.hand with elevator := f s.hand.elevator } }

/-- The service record changed, when it serves a board. -/
def State.modService (s : State) (f : Service → Service) : State :=
  { s with hand := { s.hand with service := s.hand.service.map f } }

/-- The service serves board b of panel `id`. -/
def State.serves (s : State) (id b : Nat) : Bool :=
  match s.hand.service with
  | some v => v.panel == id && v.board == b
  | none => false

/-- The picker's outstanding order becomes absent, and its timer stops. -/
def endPickerOrder (s : State) : State := s.modPicker fun p => { p with order := none, timer := none }

/-- An order is written to the picker: it is outstanding with its sequence number, its timer not yet running (R119). -/
def writePicker (k : PickerOrder) (o : Order) (s : State) : State :=
  let s := writeOrder .picker o s
  s.modPicker fun p => { p with state := .serving, order := some (k, (s.node .picker).seq), timer := none }

/-- INDEX is written to the elevator, which becomes INDEXING (R125, R146). -/
def writeIndex (k i : Nat) (s : State) : State :=
  let s := writeOrder .elevator (.index k i) s
  s.modElevator fun e =>
    { e with state := .indexing, order := some ⟨k, i, (s.node .elevator).seq⟩, timer := none }

/-- The held contingency place is released (R144). -/
def releaseContingency (s : State) : State :=
  match s.hand.service with
  | some v => if v.contingency then releaseBin (s.modService fun v => { v with contingency := false }) else s
  | none => s

/-- The service becomes FREE, the picker IDLE unless a withdrawal RETRACT is due or outstanding or it is out of service, and
selection is tried (R139, R123). -/
def freeService (s : State) : State :=
  let s := { s with hand := { s.hand with service := none } }
  askSelect
    (if s.hand.picker.state = .serving ∧ s.hand.picker.retractDue = false then
      s.modPicker fun p => { p with state := .idle }
    else s)

end Sys2Proof.Machine
end

