-- ==== Sys2Proof/Machine/Operands.lean ====
section
/-! DEFINITION. The operand forms of the cell ring (10): the common encodings (10.1), the check sequence (R196), layout items
(10.5), request bodies (10.6), order bodies (10.3), node status bodies (10.4), and the codes that named values are carried as
(R195; the lists the numbers follow are in notes/assumptions/13.md). -/

namespace Sys2Proof.Machine

/-! ### Common encodings (10.1) -/

/-- A byte field. -/
def byteOf (n : Nat) : Byte := BitVec.ofNat 8 n

/-- A word field, most significant byte first. -/
def wordBytes (n : Nat) : List Byte := [byteOf (n / 256), byteOf n]

/-- A long field. -/
def longBytes (n : Nat) : List Byte := [byteOf (n / 16777216), byteOf (n / 65536), byteOf (n / 256), byteOf n]

/-- A coordinate field: signed two's complement. A value beyond four bytes is carried as its low 32 bits, which is the model's
choice (R40; notes/assumptions/44.md). -/
def coordBytes (z : Int) : List Byte := longBytes (BitVec.ofInt 32 z).toNat

/-- A point: its x, then its y (10.6). -/
def ptBytes (p : Pt) : List Byte := coordBytes p.x ++ coordBytes p.y

/-- A mark, flag or qualifier: 1 when set, 0 when clear (10.6). -/
def flagByte (b : Bool) : Byte := if b then 1 else 0

/-- An absent byte index, count or code (R195). -/
def absentByte : Byte := 255

/-- A byte field that may be absent (R195). For a number that is neither index, count nor code the absent form 255 is the
model's reading (notes/assumptions/61.md). -/
def byteOpt : Option Nat → Byte
  | some n => byteOf n
  | none => absentByte

/-- A word field that may be absent (R195). For a number that is neither index nor count the absent form 65,535 is the model's
reading (notes/assumptions/61.md). -/
def wordOpt : Option Nat → List Byte
  | some n => wordBytes n
  | none => wordBytes 65535

/-- A coordinate field that may be absent. -/
def coordOpt : Option Int → List Byte
  | some z => coordBytes z
  | none => coordBytes (-2147483648)

/-- A point that may be absent: both its coordinates are. -/
def ptOpt (p : Option Pt) : List Byte := coordOpt (p.map Pt.x) ++ coordOpt (p.map Pt.y)

/-- A panel id that may be absent, behind its presence byte; 0 where absent (R199). -/
def idOpt : Option Nat → List Byte
  | some n => 1 :: wordBytes n
  | none => 0 :: wordBytes 0

/-- The number two bytes carry. -/
def readWord (a b : Byte) : Nat := a.toNat * 256 + b.toNat

/-- The number four bytes carry. -/
def readLong (a b c d : Byte) : Nat := readWord a b * 65536 + readWord c d

/-- The coordinate four bytes carry. -/
def readCoord (a b c d : Byte) : Int := (BitVec.ofNat 32 (readLong a b c d)).toInt

/-! ### The check sequence (R196) -/

/-- One bit into the check register: generator x^16 + x^12 + x^5 + 1, most significant bit first. -/
def checkBit (r : BitVec 16) (b : Bool) : BitVec 16 :=
  if r.msb != b then (r <<< 1) ^^^ 0x1021#16 else r <<< 1

/-- One byte into the check register. -/
def checkByte (r : BitVec 16) (x : Byte) : BitVec 16 :=
  [7, 6, 5, 4, 3, 2, 1, 0].foldl (fun r i => checkBit r (x.getLsbD i)) r

/-- The check sequence of a list of bytes: the register preset to all ones, no inversion at the end. -/
def checkSeq (l : List Byte) : BitVec 16 := l.foldl checkByte 0xffff#16

/-! ### Layout items (10.5, R198) -/

/-- The form byte of a TAB: bit 0 SHARED, bit 1 orientation V. -/
def formByte (k : TabKind) (o : Orient) : Byte :=
  match k, o with
  | .frame, .h => 0
  | .shared, .h => 1
  | .frame, .v => 2
  | .shared, .v => 3

/-- The ring encoding of a layout item. -/
def encodeItem : Item → List Byte
  | .fiducial i x y => [1, byteOf i] ++ coordBytes x ++ coordBytes y
  | .board v dx dy gx gy => [2, byteOf v] ++ coordBytes dx ++ coordBytes dy ++ coordBytes gx ++ coordBytes gy
  | .tab k o dx dy l f d =>
    [3, formByte k o] ++ coordBytes dx ++ coordBytes dy ++ wordBytes l ++ [byteOf f, byteOf d]
  | .opn c dx dy => [4, byteOf c] ++ coordBytes dx ++ coordBytes dy
  | .cls => [5]
  | .exitAfter n => [6, byteOf n]

/-- What stands at the front of an item list's bytes: an item and the bytes behind it, bytes that name no item, or a body
that ends inside an item. -/
inductive ItemRead where
  | item (i : Item) (rest : List Byte)
  | unknown
  | short
deriving DecidableEq, Repr

/-- The kind and orientation a TAB form byte carries; none with a bit other than 0 and 1 set. -/
def readForm (b : Byte) : Option (TabKind × Orient) :=
  match b.toNat with
  | 0 => some (.frame, .h)
  | 1 => some (.shared, .h)
  | 2 => some (.frame, .v)
  | 3 => some (.shared, .v)
  | _ => none

/-- The first item of a list of bytes (R198). -/
def readItem : List Byte → ItemRead
  | [] => .short
  | k :: rest =>
    match k.toNat with
    | 1 =>
      match rest with
      | i :: x0 :: x1 :: x2 :: x3 :: y0 :: y1 :: y2 :: y3 :: rest =>
        .item (.fiducial i.toNat (readCoord x0 x1 x2 x3) (readCoord y0 y1 y2 y3)) rest
      | _ => .short
    | 2 =>
      match rest with
      | v :: a0 :: a1 :: a2 :: a3 :: b0 :: b1 :: b2 :: b3 :: c0 :: c1 :: c2 :: c3 :: d0 :: d1 :: d2 :: d3 :: rest =>
        .item (.board v.toNat (readCoord a0 a1 a2 a3) (readCoord b0 b1 b2 b3) (readCoord c0 c1 c2 c3)
          (readCoord d0 d1 d2 d3)) rest
      | _ => .short
    | 3 =>
      match rest with
      | f :: a0 :: a1 :: a2 :: a3 :: b0 :: b1 :: b2 :: b3 :: l0 :: l1 :: fd :: d :: rest =>
        match readForm f with
        | some (k, o) =>
          .item (.tab k o (readCoord a0 a1 a2 a3) (readCoord b0 b1 b2 b3) (readWord l0 l1) fd.toNat d.toNat) rest
        | none => .unknown
      | _ => .short
    | 4 =>
      match rest with
      | c :: a0 :: a1 :: a2 :: a3 :: b0 :: b1 :: b2 :: b3 :: rest =>
        .item (.opn c.toNat (readCoord a0 a1 a2 a3) (readCoord b0 b1 b2 b3)) rest
      | _ => .short
    | 5 => .item .cls rest
    | 6 =>
      match rest with
      | n :: rest => .item (.exitAfter n.toNat) rest
      | _ => .short
    | _ => .unknown

/-- `n` items read one after another; none when the body ends inside one. Reading stops at bytes that name no item. -/
def readItems : Nat → List Byte → Option (List LoadItem)
  | 0, _ => some []
  | n + 1, bs =>
    match readItem bs with
    | .item i rest => (readItems n rest).map (.known i :: ·)
    | .unknown => some [.unknown]
    | .short => none

/-! ### Requests (10.6) -/

/-- The kind number of a request (10.2). -/
def ReqBody.kind : ReqBody → Nat
  | .recipeLoad _ _ _ _ => 1
  | .recipeCommit _ _ _ => 2
  | .recipeDrop _ => 3
  | .panelAnnounce _ _ _ => 4
  | .panelStart => 5
  | .panelEject => 6
  | .panelAbort _ => 7
  | .cellHold => 8
  | .cellResume => 9
  | .cellReset => 10
  | .laneSet _ _ _ _ _ => 11
  | .laneRelease _ => 12
  | .laneClearJam _ => 13
  | .binEmptied => 14
  | .rackSet _ _ _ _ => 15
  | .toolChange _ => 16
  | .paramSet _ _ => 17
  | .paramGet _ => 18
  | .tableRead _ _ _ _ => 19
  | .noticeMask _ => 20
  | .noticeLevel _ _ => 21
  | .identify => 22
  | .malformed k => k

/-- A list behind its count byte: the members, when the bytes hold them all. -/
def readList (bs : List Byte) : Option (List Nat) :=
  match bs with
  | [] => none
  | n :: rest => if rest.length < n.toNat then none else some ((rest.take n.toNat).map BitVec.toNat)

/-- The variants of LANE_SET: a set of 2 bytes, bit v for variant v. -/
def readVariants (a b : Byte) : BitVec 16 := BitVec.ofNat 16 (readWord a b)

/-- The operands behind the tag, for a kind; none when the body ends before the last of them (R179). That LANE_SET's slot count
is one byte is the model's choice (notes/assumptions/55.md). -/
def readOperands (kind : Nat) (bs : List Byte) : Option ReqBody :=
  match kind with
  | 1 =>
    match bs with
    | slot :: o0 :: o1 :: n :: rest => (readItems n.toNat rest).map (.recipeLoad slot.toNat (readWord o0 o1) n.toNat)
    | _ => none
  | 2 =>
    match bs with
    | slot :: n0 :: n1 :: c0 :: c1 :: _ => some (.recipeCommit slot.toNat (readWord n0 n1) (readWord c0 c1))
    | _ => none
  | 3 => bs.head?.map fun slot => .recipeDrop slot.toNat
  | 4 =>
    match bs with
    | i0 :: i1 :: slot :: rest => (readList rest).map (.panelAnnounce (readWord i0 i1) slot.toNat)
    | _ => none
  | 5 => some .panelStart
  | 6 => some .panelEject
  | 7 =>
    match bs with
    | i0 :: i1 :: _ => some (.panelAbort (readWord i0 i1))
    | _ => none
  | 8 => some .cellHold
  | 9 => some .cellResume
  | 10 => some .cellReset
  | 11 =>
    match bs with
    | lane :: slots :: v0 :: v1 :: fill :: rest =>
      (readList rest).map (.laneSet lane.toNat slots.toNat (readVariants v0 v1) fill.toNat)
    | _ => none
  | 12 => bs.head?.map fun lane => .laneRelease lane.toNat
  | 13 => bs.head?.map fun lane => .laneClearJam lane.toNat
  | 14 => some .binEmptied
  | 15 =>
    match bs with
    | p :: st :: cls :: w0 :: w1 :: w2 :: w3 :: _ =>
      some (.rackSet p.toNat st.toNat cls.toNat (readLong w0 w1 w2 w3))
    | _ => none
  | 16 => bs.head?.map fun head => .toolChange head.toNat
  | 17 =>
    match bs with
    | p :: v0 :: v1 :: v2 :: v3 :: _ => some (.paramSet p.toNat (readLong v0 v1 v2 v3))
    | _ => none
  | 18 => bs.head?.map fun p => .paramGet p.toNat
  | 19 =>
    match bs with
    | t :: sel :: s0 :: s1 :: n :: _ => some (.tableRead t.toNat sel.toNat (readWord s0 s1) n.toNat)
    | _ => none
  | 20 => bs.head?.map fun l => .noticeMask l.toNat
  | 21 =>
    match bs with
    | c :: l :: _ => some (.noticeLevel c.toNat l.toNat)
    | _ => none
  | 22 => some .identify
  | _ => none

/-- A request read from a record's body (R179). `tag` is the tag its reply carries when the body holds no byte. -/
def readRequest (src kind : Nat) (tag : Byte) (body : List Byte) : Request :=
  match body with
  | [] => { src := src, tag := tag.toNat, body := .malformed kind }
  | t :: bs => { src := src, tag := t.toNat, body := (readOperands kind bs).getD (.malformed kind) }

/-! ### Node status (10.4, R197) -/

/-- A node status record as read for a node. `code` is the done result's byte; the head and vision fields are 0 in records
taken for nodes that have none. -/
structure Status where
  faulty : Bool
  taken : Nat
  done : Nat
  code : Nat
  data : Nat
  x : Int
  remaining : Nat
  load : Nat
  missing : Byte
  m0 : Pt
  m1 : Pt
  m2 : Pt
deriving DecidableEq, Repr

/-- The least body length of a status record taken for a node (R197). -/
def statusLen : Node → Nat
  | .headA => 14
  | .headB => 14
  | .picker => 6
  | .elevator => 6
  | .vision => 31

/-- The number a word at an offset carries. -/
def wordAt (b : List Byte) (i : Nat) : Nat := readWord (b.getD i 0) (b.getD (i + 1) 0)

/-- The coordinate at an offset. -/
def coordAt (b : List Byte) (i : Nat) : Int := readCoord (b.getD i 0) (b.getD (i + 1) 0) (b.getD (i + 2) 0) (b.getD (i + 3) 0)

/-- The point at an offset. -/
def ptAt (b : List Byte) (i : Nat) : Pt := ⟨coordAt b i, coordAt b (i + 4)⟩

/-- A node status body read for a node; none when it is too short for that node (R197). A load sample above 4,095 is read
as 4,095. -/
def readStatus (n : Node) (b : List Byte) : Option Status :=
  if b.length < statusLen n then none
  else
    some
      { faulty := b.getD 0 0 != 0
        taken := (b.getD 1 0).toNat
        done := (b.getD 2 0).toNat
        code := (b.getD 3 0).toNat
        data := wordAt b 4
        x := coordAt b 6
        remaining := wordAt b 10
        load := min 4095 (wordAt b 12)
        missing := b.getD 6 0
        m0 := ptAt b 7
        m1 := ptAt b 15
        m2 := ptAt b 23 }

/-- The done result a code names for an order; every code not valid for it is FAULT (R197). -/
def readResult (o : Order) (code : Nat) : Result :=
  match o, code with
  | .cut _ _ _ _ _ _ _, 0 => .ok
  | .park _, 0 => .ok
  | .tool _ _ _, 0 => .ok
  | .retract, 0 => .ok
  | .lift _ _, 0 => .ok
  | .place _ _ _, 0 => .ok
  | .index _ _, 0 => .ok
  | .stop, 2 => .stopped
  | .stop, 3 => .alreadyDone
  | .tool _ _ _, 4 => .noBit
  | .pick _ _ _ _ _, 5 => .gripped
  | .pick _ _ _ _ _, 6 => .missed
  | .lift _ _, 7 => .dropped
  | .place _ _ _, 7 => .dropped
  | .stay _ _, 8 => .held
  | .stay _ _, 9 => .alreadyLifted
  | .locate _ _ _ _, 10 => .found
  | .locate _ _ _ _, 11 => .notFound
  | _, _ => .fault

/-! ### Order bodies (10.3) -/

/-- The kind number of an order. -/
def Order.kind : Order → Nat
  | .none => 0
  | .cut _ _ _ _ _ _ _ => 1
  | .stop => 2
  | .park _ => 3
  | .tool _ _ _ => 4
  | .pick _ _ _ _ _ => 5
  | .retract => 6
  | .lift _ _ => 7
  | .stay _ _ => 8
  | .place _ _ _ => 9
  | .index _ _ => 10
  | .locate _ _ _ _ => 11

/-- The operands of an order, from byte 2 of its body. -/
def Order.operands : Order → List Byte
  | .none => []
  | .cut p t a b l f v => wordBytes p ++ wordBytes t ++ ptBytes a ++ ptBytes b ++ wordBytes l ++ [byteOf f, byteOf v]
  | .stop => []
  | .park x => coordBytes x
  | .tool f c o => [byteOf f, byteOf c, byteOpt o]
  | .pick p b v g a => wordBytes p ++ [byteOf b, byteOf v] ++ ptBytes g ++ coordBytes a
  | .retract => []
  | .lift p b => wordBytes p ++ [byteOf b]
  | .stay p b => wordBytes p ++ [byteOf b]
  | .place p b d =>
    wordBytes p ++ byteOf b ::
      (match d with
        | .lane k i => [byteOf k, byteOf i]
        | .bin => [absentByte, absentByte])
  | .index k i => [byteOf k, byteOf i]
  | .locate p a b c =>
    match c with
    | .some c => wordBytes p ++ [3] ++ ptBytes a ++ ptBytes b ++ ptBytes c
    | .none => wordBytes p ++ [2] ++ ptBytes a ++ ptBytes b

/-- The body of an ORDER record. -/
def orderBody (o : Order) (seq : Nat) : List Byte := byteOf o.kind :: byteOf seq :: o.operands

/-! ### Codes of named values (R195) -/

/-- Result codes of replies (10.6). -/
def Code.num : Code → Nat
  | .ok => 0 | .clamped => 1 | .busy => 2 | .badState => 3 | .notFound => 4 | .range => 5 | .queueFull => 6
  | .tooLong => 7 | .storeFull => 8 | .notReady => 9 | .duplicate => 10 | .notClamped => 11 | .emptyQueue => 12
  | .gap => 16 | .checkMismatch => 17 | .unbalanced => 18 | .depth => 19 | .fiducialInRepeat => 20
  | .orphanTab => 21 | .badLink => 22 | .rangeCoord => 23 | .tooManyBoards => 24 | .tooManyTabs => 25
  | .tabsPerBoard => 26 | .noFiducial => 27 | .dupFiducial => 28 | .fidTooClose => 29 | .floatingBoard => 30

/-- Heads: A 0, B 1. -/
def headNum : Head → Nat
  | .a => 0
  | .b => 1

/-- Ports: P 0, N 1. -/
def portNum : Port → Nat
  | .p => 0
  | .n => 1

/-- Fault reasons: of a head in the order of R73, of the picker and the elevator in that of R119. -/
def FaultReason.num : FaultReason → Nat
  | .status => 0
  | .contact => 1
  | .take => 2
  | .cutFault => 3
  | .cutTimeout => 4
  | .parkFault => 5
  | .parkTimeout => 6
  | .tool => 7
  | .order => 3
  | .timeout => 4

/-- Head states (R73). -/
def HeadState.num : HeadState → Nat
  | .offline => 0 | .idle => 1 | .cutting => 2 | .stopping => 3 | .parking => 4 | .changing => 5 | .noTool => 6
  | .fault => 7

/-- Stop causes (R73). -/
def StopCause.num : StopCause → Nat
  | .hold => 0 | .abort => 1 | .broken => 2 | .overload => 3 | .reset => 4

/-- Picker states (R119). -/
def PickerState.num : PickerState → Nat
  | .offline => 0 | .idle => 1 | .serving => 2 | .fault => 3

/-- Elevator states (R120). -/
def ElevatorState.num : ElevatorState → Nat
  | .offline => 0 | .idle => 1 | .indexing => 2 | .fault => 3

/-- Panel states (R43). -/
def PanelState.num : PanelState → Nat
  | .locating => 0 | .cutting => 1 | .done => 2 | .refused => 3 | .closing => 4

/-- Stop reasons: those of R46, then ABORTED and UNCLAMPED (R51, R54). -/
def StopReason.num : StopReason → Nat
  | .scale => 0 | .rotation => 1 | .mismatch => 2 | .notFound => 3 | .visionFault => 4 | .timeout => 5
  | .aborted => 6 | .unclamped => 7

/-- Abort marks (R43). -/
def AbortMark.num : AbortMark → Nat
  | .aborted => 0 | .unclamped => 1

/-- Board states (R55). -/
def BoardState.num : BoardState → Nat
  | .attached => 0 | .ready => 1 | .gripWait => 2 | .gripped => 3 | .releasing => 4 | .free => 5 | .inTransit => 6
  | .stacked => 7 | .binned => 8 | .retained _ => 9 | .lost _ => 10

/-- Reasons of RETAINED (R55, R195). -/
def RetainReason.num : RetainReason → Nat
  | .unreachable => 0 | .tabFailed => 1 | .pickFailed => 2 | .binFull => 3 | .aborted => 4 | .fiducial => 5

/-- Reasons of LOST (R55). -/
def LostReason.num : LostReason → Nat
  | .unconfirmed => 0 | .dropped => 1 | .pickerFault => 2 | .torn => 3

/-- The reason of a board state; absent but in RETAINED and LOST. -/
def BoardState.reasonNum : BoardState → Option Nat
  | .retained r => some r.num
  | .lost r => some r.num
  | _ => none

/-- Tab states (R70). -/
def TabState.num : TabState → Nat
  | .pending => 0 | .queued => 1 | .held => 2 | .ordered => 3 | .done => 4 | .skipped => 5 | .failed => 6

/-- Skip reasons (R70). -/
def SkipReason.num : SkipReason → Nat
  | .unreachable => 0 | .withdrawn => 1

/-- Places (R70). -/
def Place.num : Place → Nat
  | .queueA => 0 | .queueB => 1 | .unassigned => 2

/-- How a tab's last cut ended (R93). -/
def CutHow.num : CutHow → Nat
  | .broken => 0 | .overload => 1 | .cutFault => 2 | .cutTimeout => 3 | .take => 4 | .status => 5 | .contact => 6
  | .hold => 7 | .abort => 8

/-- Locator record states (R24). -/
def LocState.num : LocState → Nat
  | .idle => 0 | .waiting => 1 | .measuring => 2 | .passed => 3 | .mapped => 4 | .refused => 5 | .abandoned => 6

/-- Locator outcomes (R24). -/
def LocOutcome.num : LocOutcome → Nat
  | .pass => 0 | .scale => 1 | .rotation => 2 | .mismatch => 3 | .notFound => 4 | .visionFault => 5 | .timeout => 6

/-- Recipe slot states (R1). -/
def SlotMode.num : SlotMode → Nat
  | .empty => 0 | .loading => 1 | .validating => 2 | .ready => 3 | .faulty => 4

/-- Rack position states (R107). -/
def RackMode.num : RackMode → Nat
  | .empty => 0 | .spare => 1 | .mounted => 2 | .worn => 3 | .broken => 4

/-- Order states of a change (R110). -/
def ChangeState.num : ChangeState → Nat
  | .awaitingRun => 0 | .out => 1 | .taken => 2

/-- The picker's order kinds, by their order kind codes (10.3). -/
def PickerOrder.num : PickerOrder → Nat
  | .pick => 5 | .retract => 6 | .lift => 7 | .stay => 8 | .place => 9

/-- Index states (R122). -/
def IndexState.num : IndexState → Nat
  | .notNeeded => 0 | .out => 1 | .done => 2 | .waiting => 3

/-- Early lift states (R122). -/
def EarlyLift.num : EarlyLift → Nat
  | .none => 0 | .out => 1 | .lifted => 2 | .dropped => 3

/-- Lane states (R140). -/
def LaneState.num : LaneState → Nat
  | .absent => 0 | .active => 1 | .full => 2 | .jammed => 3

/-- Fill orders (R140). -/
def FillOrder.num : FillOrder → Nat
  | .bottomUp => 0 | .topDown => 1

/-- Magazine slot states (R140). -/
def SlotState.num : SlotState → Nat
  | .empty => 0 | .reserved => 1 | .filled => 2 | .suspect => 3 | .blocked => 4

/-- Port states (R162). -/
def PortState.num : PortState → Nat
  | .down => 0 | .training => 1 | .up => 2 | .failed => 3

/-- Port rates (R162). -/
def Rate.num : Rate → Nat
  | .r100 => 0 | .r50 => 1 | .r25 => 2

/-- Tab kinds (R70). -/
def tabKindNum : TabKind → Nat
  | .frame => 0 | .shared => 1

/-- Board halves (R43). -/
def Half.num : Half → Nat
  | .h0 => 0 | .h1 => 1

/-- A set of members by their bits. -/
def setByte (l : List Bool) : Nat := l.foldr (fun b n => (if b then 1 else 0) + 2 * n) 0

/-- The hold causes as a set: REQUEST 0, STOP 1, SILENCE 2. -/
def Causes.byte (c : Causes) : Byte := byteOf (setByte [c.request, c.stop, c.silence])

/-- A destination: its code, then a slot byte that is 255 for the bin (10.6). -/
def destBytes : Option Dest → List Byte
  | some (.lane k i) => [byteOf k, byteOf i]
  | some .bin => [4, absentByte]
  | none => [absentByte, absentByte]

/-- The free bin places (R194). -/
def State.freeBins (s : State) : Nat := s.param .rejectCapacity - (s.hand.binFilled + s.hand.binReserved)

/-- The vision node's states, as the ring interface keeps them (R173). -/
inductive VisionState where
  | offline | fault | busy | idle
deriving DecidableEq, Repr

/-- The vision node's state (R173). -/
def State.visionState (s : State) : VisionState :=
  let r := s.node .vision
  if r.present = false then .offline
  else if r.latch ≠ none then .fault
  else
    match r.order with
    | .locate _ _ _ _ => if r.completed then .idle else .busy
    | _ => .idle

/-- Vision node states, in the order of the table of R173. -/
def VisionState.num : VisionState → Nat
  | .offline => 0 | .fault => 1 | .busy => 2 | .idle => 3

/-- The detail bytes of a notice (10.7). Two points are the model's: a lane, a variant and the bin's counts are one byte each
(notes/assumptions/59.md), and a PORT_STATE of a port in DOWN or FAILED carries its rate as 255 (notes/assumptions/60.md). -/
def Detail.bytes : Detail → List Byte
  | .stopLatched => []
  | .ringSilence => []
  | .headFault h r => [byteOf (headNum h), byteOf r.num]
  | .pickerFault r v =>
    match v with
    | some (p, b) => byteOf r.num :: 1 :: (wordBytes p ++ [byteOf b])
    | none => [byteOf r.num, 0]
  | .elevatorFault r => [byteOf r.num]
  | .laneJam k => [byteOf k]
  | .panelStopped p r => wordBytes p ++ [byteOf r.num]
  | .tabFailed p t h => wordBytes p ++ wordBytes t ++ [byteOf h.num]
  | .bitBroken h i p t => [byteOf (headNum h), byteOf i] ++ wordBytes p ++ wordBytes t
  | .noTool h => [byteOf (headNum h)]
  | .magazineFull v => [byteOf v]
  | .binFull f r => [byteOf f, byteOf r]
  | .pairFault t => [byteOf t]
  | .panelDone p => wordBytes p
  | .panelClosed p t => wordBytes p ++ [byteOf t.stacked, byteOf t.binned, byteOf t.retained, byteOf t.lost]
  | .boardLost p b r => wordBytes p ++ [byteOf b, byteOf r.num]
  | .extraction => []
  | .laneStray k => [byteOf k]
  | .portState port st r => [byteOf (portNum port), byteOf st.num, byteOpt (r.map Rate.num)]
  | .toolWorn i h w c => [byteOf i, byteOf (headNum h)] ++ longBytes w ++ wordBytes c

/-- A NOTICE body: class, level, merge count, detail (10.7). -/
def noticeBody (cls : Nat) (r : NoticeRec) : List Byte :=
  byteOf cls :: byteOf r.level :: byteOf r.merge ::
    (match r.detail with
      | some d => d.bytes
      | none => [])

/-- A REPLY body: tag, request kind, result code, data (10.6). -/
def replyBody (r : Reply) : List Byte := byteOf r.tag :: byteOf r.kind :: byteOf r.code.num :: r.data

/-- The CELL_STATUS body (10.7, R194). -/
def cellStatus (s : State) : List Byte :=
  [byteOf (if s.running then 0 else 1), s.lines.causes.byte] ++
  (match s.tracker.active with
    | some p => byteOf p.state.num :: wordBytes p.id
    | none => [absentByte, 0, 0]) ++
  idOpt (s.tracker.closing.map Panel.id) ++
  [byteOf (s.head .a).state.num, byteOf (s.head .b).state.num, byteOf s.hand.picker.state.num,
    byteOf s.hand.elevator.state.num, byteOf s.visionState.num, flagByte s.disp.paired] ++
  (let n := setByte (s.notices.recs.map NoticeRec.pending)
   [byteOf (n / 65536), byteOf (n / 256), byteOf n]) ++
  [byteOf s.req.requests.length, byteOf s.req.dropped, byteOf s.freeBins] ++
  wordBytes s.tracker.totalStacked ++
  (match s.tracker.lastTally with
    | some t =>
      1 :: (wordBytes t.id ++
        [byteOf t.tally.stacked, byteOf t.tally.binned, byteOf t.tally.retained, byteOf t.tally.lost])
    | none => [0, 0, 0, 0, 0, 0, 0])

end Sys2Proof.Machine
end

