-- ==== Sys2Proof/Machine/Orders.lean ====
section
/-! DEFINITION. The handover unit's new orders (R128 to R130, R134, R136, R146): each is written in the event in which it becomes
due when the cell is in RUN, and else at the event that returns the cell to RUN (R129). -/

namespace Sys2Proof.Machine

/-- A withdrawal RETRACT that is due is written in RUN (R128, R129). -/
def writeRetract (s : State) : State :=
  if s.running ∧ s.hand.picker.retractDue ∧ s.hand.picker.order = none then
    (writePicker .retract .retract s).modPicker fun p => { p with retractDue := false }
  else s

/-- The INDEX of a service whose index state is WAITING is written again in RUN once the elevator is in service (R146). -/
def writeReindex (s : State) : State :=
  match s.hand.service with
  | some v =>
    match v.dest with
    | .lane k i =>
      if s.running ∧ v.index = .waiting ∧ s.hand.elevator.state = .idle then
        (writeIndex k i s).modService fun v => { v with index := .out }
      else s
    | .bin => s
  | none => s

/-- The state of the board the service serves. -/
def State.servedState (s : State) (v : Service) : Option BoardState :=
  (s.panelRef v.panel).bind fun ref => s.boardState ref v.board

/-- The LIFT of a FREE board with no early lift is written in RUN (R130). -/
def writeLift (s : State) : State :=
  match s.hand.service with
  | some v =>
    if s.running ∧ s.servedState v = some .free ∧ v.early = .none ∧ s.hand.picker.order = none ∧
        s.hand.picker.state = .serving then
      writePicker .lift (.lift v.panel v.board) s
    else s
  | none => s

/-- The destination is ready for a PLACE: the bin, or a lane slot whose INDEX is done and whose lane is not JAMMED (R136). -/
def State.placeReady (s : State) (v : Service) : Bool :=
  match v.dest with
  | .bin => true
  | .lane k _ =>
    v.index == .done &&
      (match s.lane k with
        | some l => l.state != .jammed
        | none => false)

/-- The PLACE that is due is written in RUN: a torn board's to the bin (R134), or an IN_TRANSIT board's to its destination,
where a lane PLACE opens the confirm window (R136, R137). That none is written while a window stands, so that a PLACE which
awaits its confirmation is not written again, is the model's choice (notes/assumptions/66.md). -/
def writePlace (s : State) : State :=
  match s.hand.service with
  | some v =>
    if s.running ∧ s.hand.picker.order = none ∧ s.hand.picker.state = .serving ∧ v.window = none then
      if v.torn then writePicker .place (.place v.panel v.board .bin) s
      else if s.servedState v = some .inTransit ∧ s.placeReady v then
        (writePicker .place (.place v.panel v.board v.dest) s).modService fun v =>
          match v.dest with
          | .lane _ _ => { v with window := some .opened }
          | .bin => v
      else s
    else s
  | none => s

/-- The handover unit's waiting orders, in the order of R129: withdrawal RETRACT, re-issued INDEX, LIFT or PLACE. -/
def writeDue (s : State) : State := writePlace (writeLift (writeReindex (writeRetract s)))

end Sys2Proof.Machine
end

