-- ==== Sys2Proof/Machine/Retain.lean ====
section
/-! DEFINITION. What becomes of a board and its tabs: skips (R60, R71), withdrawal of the picker (R128), retention (R59),
loss (R65), readiness (R57, R58), and the end of a panel (R48, R50). -/

namespace Sys2Proof.Machine

/-! ### Skipping tabs -/

/-- A board's open-tab count falls by one (R56). -/
def lowerBoard (b : Nat) (s : State) : State :=
  s.modBoard .active b fun r => { r with openTabs := r.openTabs - 1 }

/-- A tab became DONE or SKIPPED: the open-tab counts of its owner and, for a SHARED tab, of the linked board fall (R56). -/
def lowerCounts (t : Tab) (s : State) : State :=
  match t.linked with
  | some o => lowerBoard o (lowerBoard t.owner s)
  | none => lowerBoard t.owner s

/-- A tab leaves the queue or list it stands in, and the tabs behind it keep their order (R71). -/
def leaveLists (i : Nat) (s : State) : State :=
  { s with disp := { s.disp with
      heads := ⟨{ s.disp.heads.a with queue := s.disp.heads.a.queue.filter (· != i) },
                { s.disp.heads.b with queue := s.disp.heads.b.queue.filter (· != i) }⟩,
      unassigned := s.disp.unassigned.filter (· != i) } }

/-- A tab becomes SKIPPED and is reported (R71). Its boards are not tested for readiness here: at every skip they are
RETAINED, LOST or not yet cut free, so the first condition of R57 fails. -/
def markSkipped (i : Nat) (why : SkipReason) (s : State) : State :=
  match s.tab i with
  | some t =>
    lowerCounts t
      ((leaveLists i s).modTab i fun t =>
        { t with state := .skipped, skipReason := some why, standing := false, place := none, cutHead := none,
                 settlement := none })
  | none => s

/-- A skip request (R71). -/
def skipTab (i : Nat) (s : State) : State :=
  match s.tab i with
  | some t =>
    match t.state with
    | .pending => markSkipped i (if t.unreachable then .unreachable else .withdrawn) s
    | .queued => markSkipped i (if t.unreachable then .unreachable else .withdrawn) s
    | .held =>
      markSkipped i (if t.settlement = none ∧ t.unreachable then .unreachable else .withdrawn) s
    | .ordered => s.modTab i fun t => { t with standing := true }
    | .done => s
    | .skipped => s
    | .failed => s
  | none => s

/-- The board is RETAINED. -/
def State.isRetained (s : State) (b : Nat) : Bool :=
  match s.boardState .active b with
  | some (.retained _) => true
  | _ => false

/-- The skip R60 asks of tab i for the retained board b: a FRAME tab of b, or a SHARED tab whose other board is RETAINED. -/
def skipFor (b : Nat) (s : State) (i : Nat) : State :=
  match s.tab i with
  | some t =>
    match t.kind with
    | .frame => if t.owner = b then skipTab i s else s
    | .shared =>
      if t.owner = b then
        match t.linked with
        | some o => if s.isRetained o then skipTab i s else s
        | none => s
      else if t.linked = some b ∧ s.isRetained t.owner then skipTab i s
      else s
  | none => s

/-- The skips asked when board b becomes RETAINED, in tab index order (R60). -/
def skipTabsOf (b : Nat) (s : State) : State := (List.range s.disp.tabs.length).foldl (skipFor b) s

/-! ### Withdrawal -/

/-- "Board withdrawn" (R61, R128): the slot and the contingency are released, the picker is sent RETRACT, at once when it
supersedes a PICK or a RETRACT and otherwise as a new order, written now in RUN and else at the entry to it (R129), and the
service is FREE. The picker stays SERVING. -/
def withdraw (s : State) : State :=
  match s.hand.service with
  | none => s
  | some v =>
    let s := releaseContingency (releaseSlot v.dest s)
    let s :=
      match s.hand.picker.order with
      | some (.pick, _) => writePicker .retract .retract s
      | some (.retract, _) => writePicker .retract .retract s
      | _ => s.modPicker fun p => { p with retractDue := true }
    writeRetract { s with hand := { s.hand with service := none } }

/-! ### Retention and loss -/

/-- The terminal board states (R55). -/
def BoardState.terminal : BoardState → Bool
  | .stacked => true
  | .binned => true
  | .retained _ => true
  | .lost _ => true
  | _ => false

/-- A bad-marked board gives up its bin reservation (R58). -/
def giveUpBin (r : Board) (s : State) : State := if r.bad = true ∧ r.dest = some .bin then releaseBin s else s

/-- A tally with one more retained board (R68). -/
def Panel.countRetained (p : Panel) : Panel := { p with tally := { p.tally with retained := p.tally.retained + 1 } }

/-- A tally with one more lost board (R68). -/
def Panel.countLost (p : Panel) : Panel := { p with tally := { p.tally with lost := p.tally.lost + 1 } }

/-- A tally with one more stacked board (R68). -/
def Panel.countStacked (p : Panel) : Panel := { p with tally := { p.tally with stacked := p.tally.stacked + 1 } }

/-- A tally with one more binned board (R68). -/
def Panel.countBinned (p : Panel) : Panel := { p with tally := { p.tally with binned := p.tally.binned + 1 } }

/-- The picker is at the board, or on its way to it (R61). -/
def BoardState.atPicker (st : BoardState) : Bool := st == .gripWait || st == .gripped || st == .releasing

/-- A board of the active panel becomes RETAINED, whatever its state was: it leaves the pick queue, gives up its bin
reservation, its tabs are skipped as R60 states, and a picker that serves it is withdrawn (R59, R61). -/
def retainNow (b : Nat) (why : RetainReason) (s : State) : State :=
  match s.board .active b with
  | none => s
  | some r =>
    let s := setBoardState .active b (.retained why) s
    let s := s.modPanel .active Panel.countRetained
    let s := giveUpBin r (leavePickQueue b s)
    let s := skipTabsOf b s
    if r.state.atPicker && s.serves s.activeId b then withdraw s else s

/-- A retention that reaches a board in ATTACHED, READY, GRIP_WAIT or GRIPPED retains it; any other board it leaves (R59). -/
def retain (b : Nat) (why : RetainReason) (s : State) : State :=
  match s.boardState .active b with
  | some .attached => retainNow b why s
  | some .ready => retainNow b why s
  | some .gripWait => retainNow b why s
  | some .gripped => retainNow b why s
  | _ => s

/-- A retention of both boards a tab joins, owner first (R59). -/
def retainJoined (t : Tab) (why : RetainReason) (s : State) : State :=
  match t.linked with
  | some o => retain o why (retain t.owner why s)
  | none => retain t.owner why s

/-- Every board of the active panel that may be retained is, in index order (R46, R52, R53). -/
def retainAll (why : RetainReason) (s : State) : State :=
  (List.range (s.boards .active).length).foldl (fun s b => retain b why s) s

/-- A board becomes LOST, counted and reported (R65, R68); a bad-marked one gives up its bin reservation (R58). A board in a
terminal state stays as it is (R55). -/
def loseBoard (ref : PanelRef) (b : Nat) (why : LostReason) (s : State) : State :=
  match s.panel ref, s.board ref b with
  | some p, some r =>
    if r.state.terminal then s
    else
      let s := setBoardState ref b (.lost why) s
      let s := giveUpBin r (s.modPanel ref Panel.countLost)
      raise (.boardLost p.id b why) s
  | _, _ => s

/-! ### Readiness -/

/-- The conditions of R57 on board r but for the abort mark: ATTACHED, one open tab, and that one its HELD release tab. -/
def State.readyTest (s : State) (r : Board) : Bool :=
  r.state == .attached && r.openTabs == 1 &&
    (match s.tab r.releaseTab with
      | some t => t.state == .held
      | none => false)

/-- A board is tested for readiness (R57, R58). -/
def testReady (b : Nat) (s : State) : State :=
  match s.board .active b with
  | none => s
  | some r =>
    if s.readyTest r then
      if s.abortMarked then retain b .aborted s
      else if r.bad then
        if s.binRoom then
          joinPickBack b (reserveBin (s.modBoard .active b fun r => { r with state := .ready, dest := some .bin }))
        else raise (.binFull s.hand.binFilled s.hand.binReserved) (retain b .binFull s)
      else joinPickBack b (setBoardState .active b .ready s)
    else s

/-! ### The end of a panel -/

/-- The board is past its cutting (R48). -/
def BoardState.pastCutting (st : BoardState) : Bool := st == .inTransit || st.terminal

/-- The DONE condition of R48 on the active panel's boards and tabs. -/
def State.doneTest (s : State) : Bool :=
  (s.boards .active).all (fun r => r.state.pastCutting) && s.disp.tabs.all (fun t => t.state != .ordered)

/-- The active panel becomes DONE and PANEL_DONE is raised (R48, R52). -/
def panelDone (s : State) : State :=
  raise (.panelDone s.activeId) (s.modPanel .active fun p => { p with state := .done })

/-- The DONE condition is tested (R48). -/
def testDone (s : State) : State := if s.cutting && s.doneTest then panelDone s else s

/-- The panel's last closed tally. -/
def Panel.closed (p : Panel) : ClosedTally := { id := p.id, tally := p.tally }

/-- A panel closes (R50): PANEL_CLOSED is raised with its tally, which becomes the last closed tally, and its record, board
half, tab entries and locator record are freed. -/
def closePanel (ref : PanelRef) (s : State) : State :=
  match s.panel ref with
  | none => s
  | some p =>
    let s := raise (.panelClosed p.id p.tally) s
    let s := s.setHalf p.half []
    match ref with
    | .active =>
      { s with
        tracker := { s.tracker with active := none, lastTally := some p.closed }
        disp := { s.disp with tabs := [] }
        locator := { s.locator with active := LocRec.free } }
    | .closing =>
      { s with
        tracker := { s.tracker with closing := none, lastTally := some p.closed }
        disp := { s.disp with closingTabs := [] }
        locator := { s.locator with closing := LocRec.free } }

/-- A board of the panel is IN_TRANSIT. -/
def State.inTransit (s : State) (ref : PanelRef) : Bool := (s.boards ref).any fun r => r.state == .inTransit

/-- A CLOSING panel with no board left IN_TRANSIT closes (R50). -/
def testClose (s : State) : State :=
  match s.tracker.closing with
  | some _ => if s.inTransit .closing then s else closePanel .closing s
  | none => s

end Sys2Proof.Machine
end

