-- ==== Sys2Proof/Machine/Heads.lean ====
section
/-! DEFINITION. The cut dispatcher's part of service: reach (R72), assignment (R76), pairing (R75), leaving and entering
service (R80, R81), grant and revocation (R82, R83), stop requests (R91) and the hold they come from (R155). -/

namespace Sys2Proof.Machine

/-! ### Geometry -/

/-- The tab's start point as cut: corrected, or nominal before the mapping pass. -/
def Tab.start (t : Tab) : Pt := t.corStart.getD t.nomStart

/-- The tab's end point as cut. -/
def Tab.stop (t : Tab) : Pt := t.corEnd.getD t.nomEnd

/-- The lower end of the tab's x-interval (R72). -/
def Tab.x1 (t : Tab) : Int := min t.start.x t.stop.x

/-- The upper end of the tab's x-interval (R72). -/
def Tab.x2 (t : Tab) : Int := max t.start.x t.stop.x

/-- Reach (R72): A by REACH_A_MAX, B by REACH_B_MIN, whatever the head's state. -/
def State.reaches (s : State) (h : Head) (t : Tab) : Bool :=
  match h with
  | .a => t.x2 ≤ s.param .reachAMax
  | .b => (s.param .reachBMin : Int) ≤ t.x1

/-- The tab lies below SPLIT_X (R72). -/
def State.belowSplit (s : State) (t : Tab) : Bool := t.start.x + t.stop.x < 2 * (s.param .splitX : Int)

/-! ### Assignment -/

/-- A head's queue as a place (R70). -/
def placeOf : Head → Place
  | .a => .queueA
  | .b => .queueB

/-- The SINGLE rules of R76: the lead head if in service and reaching, else the follow head, else the unassigned list. -/
def State.assignSingle (s : State) (t : Tab) : Place :=
  if s.takesTabs s.lead && s.reaches s.lead t then placeOf s.lead
  else if s.takesTabs s.follow && s.reaches s.follow t then placeOf s.follow
  else .unassigned

/-- Assignment by the mode in force (R76). When both heads leave service in this event both count as out of service for it, and
the SINGLE rules give the place (R80). -/
def State.assign (s : State) (t : Tab) : Place :=
  if s.disp.paired ∧ s.ev.bothLeave = false then
    let h : Head := if s.belowSplit t then .a else .b
    if s.reaches h t then placeOf h else placeOf h.other
  else s.assignSingle t

/-- An index placed at the front or at the back of a list. -/
def placeIn (front : Bool) (i : Nat) (l : List Nat) : List Nat := if front then i :: l else l ++ [i]

/-- A tab becomes QUEUED at the front or back of a queue or of the unassigned list (R76). -/
def putTab (i : Nat) (p : Place) (front : Bool) (s : State) : State :=
  let s := s.modTab i fun t =>
    { t with state := .queued, place := some p, cutHead := none, standing := false, settlement := none }
  match p with
  | .queueA => s.modHead .a fun r => { r with queue := placeIn front i r.queue }
  | .queueB => s.modHead .b fun r => { r with queue := placeIn front i r.queue }
  | .unassigned => { s with disp := { s.disp with unassigned := placeIn front i s.disp.unassigned } }

/-! ### Pairing -/

/-- The rack position MOUNTED with a head (R107). -/
def State.mounted (s : State) (h : Head) : Option Nat :=
  s.spindle.rack.findIdx? fun p => p.mode == .mounted && p.head == some h

/-- A head's diameter class (R75, R107): while CHANGING that of its fetch position, else that of its mounted position. -/
def State.headClass (s : State) (h : Head) : Option Nat :=
  if (s.head h).state = .changing then
    (s.change h).bind fun c => c.fetch.bind fun i => (s.rackAt i).map RackPos.cls
  else (s.mounted h).bind fun i => (s.rackAt i).map RackPos.cls

/-- Test 2 of R75: both heads have a diameter class, and the same one. -/
def State.sameClass (s : State) : Bool :=
  match s.headClass .a, s.headClass .b with
  | some x, some y => x == y
  | _, _ => false

/-- The tests of R75 in order: none when all hold, else the number of the first that fails (1 to 4). -/
def State.pairingFails (s : State) : Option Nat :=
  if !(s.inService .a && s.inService .b) then some 1
  else if !s.sameClass then some 2
  else if s.param .speedClassA ≠ s.param .speedClassB then some 3
  else if s.param .reachBMin ≤ s.param .splitX ∧ s.param .splitX ≤ s.param .reachAMax then none
  else some 4

/-- The pairing mode is evaluated (R75): a fall from PAIRED by test 2, 3 or 4 raises PAIR_FAULT. -/
def evalPairing (s : State) : State :=
  let s' := { s with disp := { s.disp with paired := s.pairingFails == none } }
  match s.pairingFails with
  | some k => if s.disp.paired ∧ 2 ≤ k then raise (.pairFault (k - 2)) s' else s'
  | none => s'

/-! ### Leaving and entering service -/

/-- One tab of a leaving head's queue reassigned by the SINGLE rules, a release tab to the front (R80). That the front is ahead
of the settled tab of the head's ended cut, behind which R95 puts the other tabs, is the model's choice
(notes/assumptions/56.md). -/
def reassign (s : State) (i : Nat) : State :=
  match s.tab i with
  | some t => putTab i (s.assignSingle t) t.release s
  | none => s

/-- A leaving head's QUEUED tabs are reassigned from front to back, and its queue ends empty (R80). When both heads leave in
one event, the tab of the head's ended cut, if it still stands in its queue, goes first, to the front of its new list (R80,
R95); a release tab behind it goes ahead of it (notes/assumptions/56.md). A tab put back after STOPPED is not such a tab and moves
with the queue, which is the model's choice (notes/assumptions/23.md). -/
def moveOut (h : Head) (s : State) : State :=
  let q := (s.head h).queue
  let s := s.modHead h fun r => { r with queue := [] }
  match s.ev.settled.get h with
  | some i =>
    if q.contains i then
      match s.tab i with
      | some t => (q.filter (· != i)).foldl reassign (putTab i (s.assignSingle t) true s)
      | none => q.foldl reassign s
    else q.foldl reassign s
  | none => q.foldl reassign s

/-- A head leaves service (R80). When both heads leave in this event its queue is moved at the end of it, the lead head's
first, and the mode is evaluated then. -/
def leaveService (h : Head) (s : State) : State :=
  let s := { s with ev := { s.ev with left := s.ev.left.set h true } }
  if s.ev.bothLeave then s else evalPairing (moveOut h s)

/-- One unassigned tab taken by a head that enters service, if it reaches it (R81). -/
def takeUnassigned (h : Head) (s : State) (i : Nat) : State :=
  match s.tab i with
  | some t =>
    if s.reaches h t then
      putTab i (placeOf h) false
        { s with disp := { s.disp with unassigned := s.disp.unassigned.filter (· != i) } }
    else s
  | none => s

/-- A head enters service: the unassigned tabs it reaches join the back of its queue in list order, and the mode is evaluated
(R81). -/
def enterService (h : Head) (s : State) : State :=
  evalPairing (s.disp.unassigned.foldl (takeUnassigned h) s)

/-! ### Release tabs -/

/-- A grant (R82): a HELD release tab with no settlement pending becomes QUEUED at the front of the place R76 gives. -/
def grant (i : Nat) (s : State) : State :=
  match s.tab i with
  | some t =>
    if t.state = .held ∧ t.settlement = none then putTab i (s.assign t) true s else s
  | none => s

/-! ### Stop requests -/

/-- A stop request that names a head (R91): a CUTTING head is sent STOP and becomes STOPPING with the cause; a head in any
other state is left as it is. -/
def stopHead (h : Head) (cause : StopCause) (s : State) : State :=
  if (s.head h).state = .cutting then
    (writeOrder h.node .stop s).modHead h fun r => { r with state := .stopping, cause := some cause }
  else s

/-- A stop request for both heads, the lead head's first. -/
def stopHeads (cause : StopCause) (s : State) : State := stopHead s.follow cause (stopHead s.lead cause s)

/-- A stop request for the cut of one tab (R66, R83). -/
def stopTab (i : Nat) (cause : StopCause) (s : State) : State :=
  if (s.head .a).tab = some i then stopHead .a cause s
  else if (s.head .b).tab = some i then stopHead .b cause s
  else s

/-- A revocation (R83): a QUEUED release tab becomes HELD with no place, an ORDERED one is stopped with cause HOLD. -/
def revoke (i : Nat) (s : State) : State :=
  match s.tab i with
  | some t =>
    match t.state with
    | .queued => (leaveLists i s).modTab i fun t => { t with state := .held, place := none }
    | .ordered => stopTab i .hold s
    | _ => s
  | none => s

/-! ### The hold cause set -/

/-- A cause is added to the hold cause set; when that takes the set from empty to not empty, the cell enters HELD and every
CUTTING head is stopped with cause HOLD (R155). -/
def addCause (f : Causes → Causes) (s : State) : State :=
  let s' := { s with lines := { s.lines with causes := f s.lines.causes } }
  if s.running then stopHeads .hold s' else s'

/-- The cause REQUEST in the set. -/
def Causes.withRequest (c : Causes) : Causes := { c with request := true }

/-- The cause STOP in the set. -/
def Causes.withStop (c : Causes) : Causes := { c with stop := true }

/-- The cause SILENCE in the set. -/
def Causes.withSilence (c : Causes) : Causes := { c with silence := true }

end Sys2Proof.Machine
end

