-- ==== Sys2Proof/Machine/Tools.lean ====
section
/-! DEFINITION. The spindle monitor (05): the choice of a bit (R110), the TOOL order (R111), what its ends do (R112 to R114),
the NO_TOOL waiting list (R115), returned bits (R116), wear (R104 to R106) and the load filter (R99 to R102). -/

namespace Sys2Proof.Machine

/-! ### The choice of a bit -/

/-- The position is a candidate for a change whose outgoing position is `out` (R110). -/
def RackPos.candidate (life : Nat) (out : Option Nat) (i : Nat) (p : RackPos) : Bool :=
  p.mode == .spare && decide (p.wear < life) && p.engaged == none && out != some i

/-- The candidates of a change, with their numbers (R110). -/
def State.candidates (s : State) (c : Change) : List (Nat × RackPos) :=
  (s.spindle.rack.zipIdx.map fun q => (q.2, q.1)).filter fun q => q.2.candidate (s.param .bitLife) c.outgoing q.1

/-- Of two candidates, the one with less wear, and the first of equal ones. -/
def lessWorn (best : Option (Nat × RackPos)) (q : Nat × RackPos) : Option (Nat × RackPos) :=
  match best with
  | some b => if q.2.wear < b.2.wear then some q else some b
  | none => some q

/-- The candidate with the least wear, the lowest-numbered among equals (R110). -/
def leastWorn (l : List (Nat × RackPos)) : Option Nat := (l.foldl lessWorn none).map Prod.fst

/-- The choice of R110: among the candidates of the other head's class when it is in service, has a class and one of that
class exists; else among all. -/
def State.chooseBit (s : State) (h : Head) (c : Change) : Option Nat :=
  let all := s.candidates c
  let preferred :=
    match s.headClass h.other with
    | some k => if s.inService h.other then all.filter fun q => q.2.cls == k else []
    | none => []
  leastWorn (if preferred.isEmpty then all else preferred)

/-! ### Changing a bit -/

/-- The TOOL of a change is written when the cell is in RUN and it waits with a fetch position (R111). -/
def writeTool (h : Head) (s : State) : State :=
  match s.change h with
  | some c =>
    match c.fetch with
    | some f =>
      if s.running ∧ c.state = .awaitingRun then
        let cls := ((s.rackAt f).map RackPos.cls).getD 0
        (writeOrder h.node (.tool f cls (if c.returned then none else c.outgoing)) s).setChange h
          (some { c with state := .out })
      else s
    | none => s
  | none => s

/-- A chosen position is engaged and becomes the fetch position; the head is CHANGING, enters service if it was out of it,
and its TOOL is written (R110, R111, R81). -/
def engage (h : Head) (c : Change) (i : Nat) (s : State) : State :=
  let was := (s.head h).state.inService
  let s := s.modRack i fun p => { p with engaged := some h }
  let s := s.setChange h (some { c with fetch := some i, state := .awaitingRun, timer := none })
  let s := setHeadState h .changing s
  writeTool h (if was then s else enterService h s)

/-- The choice of R110 for a head's change record: CHANGING with a fetch position, or NO_TOOL at the back of the waiting list
with NO_TOOL raised. A head that was out of service enters it as CHANGING and leaves it for NO_TOOL (R110, R80, R81). -/
def pickBit (h : Head) (s : State) : State :=
  match s.change h with
  | none => s
  | some c =>
    match s.chooseBit h c with
    | some i => engage h c i s
    | none =>
      let s := if (s.head h).state.inService then s else enterService h (setHeadState h .changing s)
      let s := setHeadState h .noTool s
      let s := { s with spindle := { s.spindle with
                  waiting := if s.spindle.waiting.contains h then s.spindle.waiting else s.spindle.waiting ++ [h] } }
      leaveService h (raise (.noTool h) s)

/-- A change begins: its record is created with the mounted position as the outgoing one, and the choice is made (R110). A
record with no fetch position holds the order state AWAITING_RUN, which is the model's choice (notes/assumptions/46.md). -/
def beginChange (h : Head) (s : State) : State :=
  pickBit h (s.setChange h
    (some { outgoing := s.mounted h, returned := false, fetch := none, state := .awaitingRun, timer := none }))

/-- Where the dispatcher would make a head IDLE: a change due begins instead (R109). -/
def headIdle (h : Head) (s : State) : State := if s.due h then beginChange h s else setHeadState h .idle s

/-- The end of OFFLINE or FAULT (R74, R109): a change begins when no bit is mounted or a change is due; else the head is IDLE
and enters service. -/
def headBack (h : Head) (s : State) : State :=
  let s := s.modHead h fun r => { r with reason := none }
  if s.mounted h = none ∨ s.due h then beginChange h s else enterService h (setHeadState h .idle s)

/-- One head of the waiting list served (R115). -/
def serveOne (s : State) (h : Head) : State :=
  match s.change h with
  | none => s
  | some c =>
    match s.chooseBit h c with
    | some i =>
      engage h c i { s with spindle := { s.spindle with waiting := s.spindle.waiting.filter (· != h) } }
    | none => s

/-- The NO_TOOL waiting list is served in list order (R115). -/
def serveList (s : State) : State := s.spindle.waiting.foldl serveOne s

/-! ### The end of a TOOL order -/

/-- The return state of a bit (R116). -/
def RackPos.returnMode (life : Nat) (p : RackPos) : RackMode :=
  if p.brokenMark then .broken else if life ≤ p.wear then .worn else .spare

/-- The change's outgoing position, unless none or already returned (R112, R113, R114). -/
def Change.toReturn (c : Change) : Option Nat := if c.returned then none else c.outgoing

/-- The bit a head puts back takes its return state and loses its head and broken mark; WORN raises TOOL_WORN (R116). -/
def returnBit (h : Head) (c : Change) (s : State) : State :=
  match c.toReturn with
  | none => s
  | some i =>
    match s.rackAt i with
    | none => s
    | some p =>
      let mode := p.returnMode (s.param .bitLife)
      let s := s.modRack i fun p => { p with mode := mode, head := none, brokenMark := false }
      if mode = .worn then raise (.toolWorn i h p.wear p.cuts) s else s

/-- The bit a head puts back returns as SPARE. -/
def State.returnsSpare (s : State) (c : Change) : Bool :=
  match c.toReturn.bind s.rackAt with
  | some p => p.returnMode (s.param .bitLife) == .spare
  | none => false

/-- A TOOL completion OK (R112). -/
def toolOk (h : Head) (c : Change) (s : State) : State :=
  let spare := s.returnsSpare c
  let s := returnBit h c s
  let s :=
    match c.fetch with
    | some f => s.modRack f fun p => { p with mode := .mounted, head := some h, brokenMark := false, engaged := none }
    | none => s
  let s := (s.setChange h none).setDue h false
  let s := evalPairing (setHeadState h .idle s)
  if spare then serveList s else s

/-- A fetch position loses its engagement. -/
def disengage (c : Change) (s : State) : State :=
  match c.fetch with
  | some f => s.modRack f fun p => { p with engaged := none }
  | none => s

/-- A TOOL completion NO_BIT (R113). -/
def toolNoBit (h : Head) (c : Change) (s : State) : State :=
  let s := returnBit h c s
  let s :=
    match c.fetch with
    | some f => s.modRack f fun p => { p with mode := .empty, engaged := none }
    | none => s
  let s := s.setChange h (some { c with returned := true, fetch := none, state := .awaitingRun, timer := none })
  serveList (pickBit h s)

/-- What a fault of a CHANGING head does to its change (R114): with a TOOL written, the outgoing bit is taken as put back and
the change due is cleared; without one, the change due stays. Either way the engagement ends and the record is removed. That
the change due stays also after a NO_BIT, with no bit MOUNTED, is the model's choice (notes/assumptions/47.md). -/
def failChange (h : Head) (s : State) : State :=
  match s.change h with
  | none => s
  | some c =>
    let s :=
      if c.state = .awaitingRun then s else (returnBit h c s).setDue h false
    (disengage c s).setChange h none

/-- What a fault of a NO_TOOL head does: it leaves the waiting list, its change record is removed, and its change due stays set
only while a bit is MOUNTED with it (R114). That it is cleared when none is MOUNTED is the model's choice
(notes/assumptions/63.md). -/
def failWaiting (h : Head) (s : State) : State :=
  let s := s.setDue h (s.due h && (s.mounted h).isSome)
  { s with spindle := { s.spindle with
      waiting := s.spindle.waiting.filter (· != h), change := s.spindle.change.set h none } }

/-! ### Wear -/

/-- A number of µm in whole mm, rounded up (R104). -/
def ceilMm (um : Nat) : Nat := (um + 999) / 1000

/-- A rack position charged with a cut: wear and cuts saturate (R104). -/
def RackPos.charge (mm : Nat) (p : RackPos) : RackPos :=
  { p with wear := min 1048575 (p.wear + mm), cuts := min 65535 (p.cuts + 1) }

/-- The bit mounted in a head is charged; wear at or above BIT_LIFE then sets the head's change due (R104 to R106). -/
def chargeBit (h : Head) (mm : Nat) (s : State) : State :=
  match s.mounted h with
  | none => s
  | some i =>
    let s := s.modRack i (RackPos.charge mm)
    match s.rackAt i with
    | some p => if s.param .bitLife ≤ p.wear then s.setDue h true else s
    | none => s

/-- A cut that ended DONE accounted (R104). -/
def accountDone (h : Head) (len : Nat) (s : State) : State := chargeBit h (ceilMm len + s.param .plungeEquiv) s

/-- The advanced length of a cut of length `len` with a remaining length (R100): a remaining length above L counts as L. -/
def advanced (len rem : Nat) : Nat := len - min len rem

/-- A cut that ended without DONE accounted as aborted (R105): by the remaining length carried with STOPPED, else by the last
one reported, else with no advanced length. -/
def accountAbort (h : Head) (rem : Option Nat) (s : State) : State :=
  let f := s.filter h
  let a :=
    match rem with
    | some r => advanced f.len r
    | none =>
      match f.remaining with
      | some r => advanced f.len r
      | none => 0
  chargeBit h (ceilMm a + s.param .plungeEquiv) s

/-! ### The load filter -/

/-- The filter record reset at a CUT issue (R99). -/
def Filter.begin (shift len : Nat) : Filter :=
  { shift := shift, sum := 0, count := 0, last := none, low := 0, high := 0, peak := none, remaining := none, len := len }

/-- The filter after a complete block gave the value v (R101, R102): last value, peak and both runs. -/
def Filter.value (lo hi v : Nat) (f : Filter) : Filter :=
  { f with
    sum := 0, count := 0, last := some v
    peak := some (match f.peak with | some p => max p v | none => v)
    low := if v < lo then f.low + 1 else 0
    high := if hi < v then f.high + 1 else 0 }

/-- The filter after one accepted sample, and the filtered value when the sample completes a block (R101). -/
def Filter.sample (lo hi x : Nat) (f : Filter) : Filter × Option Nat :=
  let f := { f with sum := f.sum + x, count := f.count + 1 }
  if f.count = 2 ^ f.shift then
    let v := f.sum >>> f.shift
    (f.value lo hi v, some v)
  else (f, none)

/-- BROKEN is declared (R102): the mounted bit is marked, the change is due, BIT_BROKEN is raised and the cut is stopped. -/
def declareBroken (h : Head) (s : State) : State :=
  let pos := (s.mounted h).getD 255
  let tab := ((s.head h).tab).getD 65535
  let s := s.modRack pos fun p => { p with brokenMark := true }
  stopHead h .broken (raise (.bitBroken h pos s.activeId tab) (s.setDue h true))

/-- One accepted sample of a head, with the comparator of R102 on a complete block. -/
def acceptSample (h : Head) (x : Nat) (s : State) : State :=
  let r := (s.filter h).sample (s.param .loadLow) (s.param .loadHigh) x
  let s := s.setFilter h r.1
  match r.2 with
  | none => s
  | some v =>
    if v < s.param .loadLow ∧ s.param .lowConfirm ≤ r.1.low then declareBroken h s
    else if s.param .loadHigh < v ∧ s.param .highConfirm ≤ r.1.high then stopHead h .overload s
    else s

/-- A status record of a CUTTING head that reports its current CUT taken and not done: the last remaining length is updated,
and past the blanking length the sample is accepted (R100). -/
def offerSample (h : Head) (rem load : Nat) (s : State) : State :=
  let f := s.filter h
  let s := s.setFilter h { f with remaining := some rem }
  if s.param .loadBlank ≤ advanced f.len rem then acceptSample h load s else s

end Sys2Proof.Machine
end

