-- ==== Sys2Proof/Machine/Cuts.lean ====
section
/-! DEFINITION. Cutting (04): the clearance arbiter (R84 to R88), CUT and PARK (R89, R96), the ends of a cut (R90 to R95) with
what they do to the board a release tab holds (R64, R130, R132 to R134), and a head's fault (R74, R95, R114). -/

namespace Sys2Proof.Machine

/-! ### The clearance arbiter -/

/-- A head's park position (R73, R96). -/
def parkX : Head → Int
  | .a => 0
  | .b => 720000

/-- A head's position: last reported x, or the park position when absent (R73). -/
def State.headX (s : State) (h : Head) : Int := (s.head h).x.getD (parkX h)

/-- The tab a head occupies space for: its ordered tab while CUTTING or STOPPING (R84). -/
def State.occupiedTab (s : State) (h : Head) : Option Tab :=
  if (s.head h).state = .cutting ∨ (s.head h).state = .stopping then (s.head h).tab.bind s.tab else none

/-- The lower end of a head's occupied interval (R84). -/
def State.occLow (s : State) (h : Head) : Int :=
  match s.occupiedTab h with
  | some t => t.x1
  | none => s.headX h

/-- The upper end of a head's occupied interval (R84). -/
def State.occHigh (s : State) (h : Head) : Int :=
  match s.occupiedTab h with
  | some t => t.x2
  | none => s.headX h

/-- A tab passes for a head: HEAD_CLEARANCE from the other head's occupied interval; equality passes (R84). -/
def State.passes (s : State) (h : Head) (t : Tab) : Bool :=
  match h with
  | .a => t.x2 + (s.param .headClearance : Int) ≤ s.occLow .b
  | .b => s.occHigh .a + (s.param .headClearance : Int) ≤ t.x1

/-- The first of up to four queue entries, front first, that passes (R86). -/
def State.firstPassing (s : State) (h : Head) : Option Nat :=
  ((s.head h).queue.take 4).find? fun i =>
    match s.tab i with
    | some t => s.passes h t
    | none => false

/-- No CUT is inhibited (R88): RUN, EXTRACT_OK active, the active panel CUTTING. -/
def State.cutsAllowed (s : State) : Bool := s.running && s.lines.extract.cond && s.cutting

/-- A head's speed class parameter (R89). -/
def State.speedClass (s : State) (h : Head) : Nat :=
  match h with
  | .a => s.param .speedClassA
  | .b => s.param .speedClassB

/-- A release tab is ORDERED: its GRIPPED board becomes RELEASING (R64). -/
def releaseOrdered (t : Tab) (s : State) : State :=
  if t.release ∧ s.boardState .active t.owner = some .gripped then setBoardState .active t.owner .releasing s else s

/-- A CUT is issued (R89): the tab leaves its queue and is ORDERED, the head CUTTING, the order written, the head's load
filter reset (R99). -/
def issueCut (h : Head) (i : Nat) (s : State) : State :=
  match s.tab i with
  | none => s
  | some t =>
    let s := (leaveLists i s).modTab i fun t => { t with state := .ordered, place := none, cutHead := some h }
    let s := s.modHead h fun r => { r with state := .cutting, tab := some i, cause := none, timer := none }
    let s := writeOrder h.node (.cut s.activeId i t.start t.stop t.len t.feed (s.speedClass h)) s
    let s := s.setFilter h (Filter.begin (s.param .loadFilter) t.len)
    releaseOrdered t s

/-- PARK is issued (R96). -/
def issuePark (h : Head) (s : State) : State :=
  (writeOrder h.node (.park (parkX h)) s).modHead h fun r => { r with state := .parking, timer := none }

/-- A head is at its park position: its last reported x equals it, or is absent (R87). -/
def State.atPark (s : State) (h : Head) : Bool := s.headX h == parkX h

/-- The arbiter's run for a head (R85 to R87). That only the first four entries of the other head's queue are asked for one that
passes is the model's reading (notes/assumptions/62.md). -/
def arbiter (h : Head) (s : State) : State :=
  if (s.head h).state = .idle ∧ (s.head h).queue ≠ [] ∧ s.cutsAllowed then
    match s.firstPassing h with
    | some i => issueCut h i s
    | none =>
      if (s.head h.other).state = .idle then
        if (s.head h.other).queue = [] then
          if s.atPark h.other then s else issuePark h.other s
        else if (s.firstPassing h.other).isSome then s
        else if s.atPark s.follow then s else issuePark s.follow s
      else s
  else s

/-- The arbiter's runs in one event, the lead head examined first; what one run issues starts the other head's run again, and
after two rounds nothing is left to start (R85; notes/assumptions/10.md). -/
def runArbiter (s : State) : State :=
  let l := s.lead
  let f := s.follow
  arbiter f (arbiter l (arbiter f (arbiter l s)))

/-! ### The picker's part in the end of a release cut -/

/-- The early lift state of the service for board b of the active panel (R132): NONE when the service serves another board. -/
def State.earlyLift (s : State) (b : Nat) : EarlyLift :=
  match s.hand.service with
  | some v => if v.panel = s.activeId ∧ v.board = b then v.early else .none
  | none => .none

/-- The destination of the service; the bin when it is FREE (its slot operations then do nothing). -/
def State.serviceDest (s : State) : Dest :=
  match s.hand.service with
  | some v => v.dest
  | none => .bin

/-- A board is LOST by a LIFT that completed DROPPED: its slot, if RESERVED, returns to EMPTY and the service is FREE
(R65, R130, R138, R139). -/
def dropLifted (ref : PanelRef) (b : Nat) (s : State) : State :=
  freeService (releaseSlot s.serviceDest (loseBoard ref b .dropped s))

/-- A board came off the panel while its release tab was not cut through (R134). `holding`: the picker has it, and its PLACE to
the bin is written. -/
def tornBoard (b : Nat) (holding : Bool) (s : State) : State :=
  let s := releaseSlot s.serviceDest (loseBoard .active b .torn s)
  if holding then
    writePlace (s.modService fun v => { v with torn := true, dest := .bin, index := .notNeeded, window := none })
  else freeService (releaseContingency s)

/-- The release tab of board b became DONE (R64, R66, R130). A RELEASING board is FREE, and the early lift settles what
follows: LIFT is written when there was none (R130), and PLACE is tried when the board passes to IN_TRANSIT (R136). A board
that a picker fault made READY is LOST. -/
def releaseDone (b : Nat) (s : State) : State :=
  match s.boardState .active b with
  | some .releasing =>
    let s := setBoardState .active b .free s
    match s.earlyLift b with
    | .none => writeLift s
    | .out => releaseContingency s
    | .lifted => writePlace (setBoardState .active b .inTransit (releaseContingency s))
    | .dropped => dropLifted .active b (releaseContingency s)
  | some .ready => loseBoard .active b .pickerFault s
  | _ => s

/-! ### The end of a cut -/

/-- The head's ordered tab and stop cause become absent and its timer stops (R90, R92). -/
def endHead (h : Head) (s : State) : State := s.modHead h fun r => { r with tab := none, cause := none, timer := none }

/-- The filter's peak is written into the tab; 0 when no block was complete (R103). -/
def handPeak (h : Head) (i : Nat) (s : State) : State :=
  s.modTab i fun t => { t with peak := some ((s.filter h).peak.getD 0) }

/-- A tab that became DONE is reported: counts fall, a release tab's board moves, and readiness is tested, owner first
(R56, R90). -/
def reportDone (t : Tab) (s : State) : State :=
  let s := lowerCounts t s
  let s := if t.release then releaseDone t.owner s else s
  match t.linked with
  | some o => testReady o (testReady t.owner s)
  | none => testReady t.owner s

/-- A cut ends DONE (R90). The cut of a STOP written by CELL_RESET names no tab: it is accounted as aborted (R97). -/
def cutDone (h : Head) (s : State) : State :=
  match (s.head h).tab with
  | some i =>
    match s.tab i with
    | some t =>
      let s := s.modTab i fun t =>
        { t with state := .done, standing := false, place := none, cutHead := none, lastCut := some (h, t.feed) }
      let s := accountDone h t.len (endHead h s)
      headIdle h (reportDone t (handPeak h i s))
    | none => headIdle h (endHead h s)
  | none => headIdle h (endHead h (accountAbort h none s))

/-- A tab becomes FAILED: TAB_FAILED is raised and the boards it joins are retained (R59, R71, R93). -/
def failTab (i : Nat) (how : CutHow) (s : State) : State :=
  match s.tab i with
  | some t =>
    let s := s.modTab i fun t => { t with state := .failed, place := none, cutHead := none, standing := false, settlement := none }
    raise (.tabFailed s.activeId i how) (retainJoined t .tabFailed s)
  | none => s

/-- A tab whose cut ended goes back to a queue (R93, R94): to the front of the queue of the head that cut it after STOPPED, or
by the SINGLE rules to the front of a queue or list. When both heads leave service in this event, the tab of a head on its
way out of service waits, named, in its head's queue, which is moved at the end of the event (R80). That only a tab whose cut a
fault or a timeout ended is named, and one put back after STOPPED moves with the queue, is the model's choice
(notes/assumptions/23.md). -/
def requeue (h : Head) (stopped : Bool) (i : Nat) (s : State) : State :=
  match s.tab i with
  | some t =>
    if stopped then putTab i (placeOf h) true s
    else if s.ev.bothLeave ∧ (s.head h).state = .fault ∧ s.ev.left.get h = false then
      putTab i (placeOf h) true { s with ev := { s.ev with settled := s.ev.settled.set h (some i) } }
    else putTab i (s.assignSingle t) true s
  | none => s

/-- A tab without the release flag settled (R93). -/
def settlePlain (h : Head) (stopped : Bool) (how : CutHow) (i : Nat) (s : State) : State :=
  match s.tab i with
  | some t =>
    if t.standing then markSkipped i .withdrawn s
    else if s.param .maxAttempts ≤ t.attempts then failTab i how s
    else requeue h stopped i s
  | none => s

/-- A RELEASING board is RETAINED after its release cut (R53, R64). -/
def retainReleasing (b : Nat) (why : RetainReason) (s : State) : State :=
  if s.boardState .active b = some .releasing then retainNow b why s else s

/-- A RELEASING board goes back to GRIPPED (R64). -/
def backToGripped (b : Nat) (s : State) : State :=
  if s.boardState .active b = some .releasing then setBoardState .active b .gripped s else s

/-- The last three rows of R94, with the board's move (R64). -/
def settleRelease (h : Head) (stopped : Bool) (how : CutHow) (i : Nat) (s : State) : State :=
  match s.tab i with
  | some t =>
    if s.abortMarked then retainReleasing t.owner .aborted (markSkipped i .withdrawn s)
    else if s.param .maxAttempts ≤ t.attempts then
      let s := s.modTab i fun t => { t with state := .failed, place := none, cutHead := none, standing := false, settlement := none }
      raise (.tabFailed s.activeId i how) (retainReleasing t.owner .tabFailed s)
    else requeue h stopped i (backToGripped t.owner s)
  | none => s

/-- A release tab settled (R94), row by row, with its board's move (R64, R66). -/
def settleReleaseTab (h : Head) (stopped : Bool) (how : CutHow) (i : Nat) (s : State) : State :=
  match s.tab i with
  | some t =>
    if t.standing then markSkipped i .withdrawn s
    else
      match s.earlyLift t.owner with
      | .lifted => tornBoard t.owner true (markSkipped i .withdrawn s)
      | .dropped => tornBoard t.owner false (markSkipped i .withdrawn s)
      | .out =>
        writePicker .stay (.stay s.activeId t.owner)
          (s.modTab i fun t => { t with state := .held, cutHead := none, place := none,
                                        settlement := some ⟨h, stopped, how⟩ })
      | .none =>
        if s.boardState .active t.owner = some .releasing then settleRelease h stopped how i s
        else
          let s := s.modTab i fun t => { t with state := .held, cutHead := none, place := none }
          if s.boardState .active t.owner = some .ready ∧ s.tracker.pickQueue.contains t.owner = false then
            joinPickFront t.owner s
          else s
  | none => s

/-- A tab whose cut ended without DONE is settled (R93, R94). -/
def settleTab (h : Head) (stopped : Bool) (how : CutHow) (i : Nat) (s : State) : State :=
  match s.tab i with
  | some t => if t.release then settleReleaseTab h stopped how i s else settlePlain h stopped how i s
  | none => s

/-- How a stopped cut ended, by its stop cause (R93). A STOP for RESET settles no tab, so its row is never carried. -/
def StopCause.how : StopCause → CutHow
  | .hold => .hold
  | .abort => .abort
  | .broken => .broken
  | .overload => .overload
  | .reset => .hold

/-- The table of R92: attempts and feed class by stop cause. That attempts rise past 5 too is the model's choice (R93;
notes/assumptions/58.md). -/
def Tab.stoppedBy (c : StopCause) (t : Tab) : Tab :=
  match c with
  | .hold => t
  | .abort => t
  | .broken => { t with attempts := t.attempts + 1 }
  | .overload => { t with attempts := t.attempts + 1, feed := t.feed - 1 }
  | .reset => t

/-- A STOP completes STOPPED with a remaining length (R92, R97). -/
def cutStopped (h : Head) (rem : Nat) (s : State) : State :=
  let c := (s.head h).cause.getD .hold
  match (s.head h).tab with
  | some i =>
    let s := s.modTab i (Tab.stoppedBy c)
    let s := handPeak h i (accountAbort h (some rem) (endHead h s))
    headIdle h (settleTab h true c.how i s)
  | none => headIdle h (endHead h (accountAbort h (some rem) s))

/-- How a cut that a fault ended is reported (R93, R95). -/
def FaultReason.how : FaultReason → CutHow
  | .status => .status
  | .contact => .contact
  | .take => .take
  | .cutFault => .cutFault
  | .cutTimeout => .cutTimeout
  | .parkFault => .cutFault
  | .parkTimeout => .cutTimeout
  | .tool => .cutFault
  | .order => .cutFault
  | .timeout => .cutTimeout

/-- A faulted head's cut ends (R95, steps 3 to 5): attempts rise, the cut is accounted as aborted, the tab is settled. The cut
of a STOP written by CELL_RESET names no tab and is only accounted (R97). That attempts rise past 5 too is the model's choice
(R93; notes/assumptions/58.md). -/
def faultCut (h : Head) (why : FaultReason) (s : State) : State :=
  match (s.head h).tab with
  | some i =>
    let s := s.modTab i fun t => { t with attempts := t.attempts + 1 }
    let s := handPeak h i (accountAbort h none (endHead h s))
    settleTab h false why.how i s
  | none => accountAbort h none (endHead h s)

/-- A head enters FAULT (R74, R95, R114): the latch is set, a cut in hand is ended and its tab settled, a change in hand fails,
the head leaves service when it was in it, HEAD_FAULT is raised, and the waiting list is served where an engagement ended. In
OFFLINE and in FAULT nothing changes. -/
def headFault (h : Head) (why : FaultReason) (s : State) : State :=
  let st := (s.head h).state
  if st = .offline ∨ st = .fault then s
  else
    let s := setLatch h.node why s
    let s := s.modHead h fun r => { r with state := .fault, reason := some why, timer := none }
    let s := if why = .cutTimeout ∧ st = .cutting then writeOrder h.node .stop s else s
    let s :=
      match st with
      | .cutting => faultCut h why s
      | .stopping => faultCut h why s
      | .changing => failChange h s
      | .noTool => failWaiting h s
      | _ => s
    let s := if st.inService then leaveService h s else s
    let s := raise (.headFault h why) s
    if st = .changing then serveList s else s

end Sys2Proof.Machine
end

