-- ==== Sys2Proof/Machine/Picking.lean ====
section
/-! DEFINITION. The handover and stacking unit (06): selection (R123 to R125), the orders that wait for RUN (R129, R130, R134,
R136, R146), the ends of its orders (R126 to R138), placement confirmation (R137, R143), and the faults of the picker and the
elevator (R145, R146, R66); then what closes every event (R48, R50, R85, R123). -/

namespace Sys2Proof.Machine

/-! ### Selection -/

/-- The elevator is in service (R120). -/
def State.elevatorInService (s : State) : Bool :=
  s.hand.elevator.state == .idle || s.hand.elevator.state == .indexing

/-- The number of EMPTY slots of a lane. -/
def Lane.empties (l : Lane) : Nat := l.slots.count .empty

/-- A lane can take a board of the variant (R124): ACTIVE, the variant accepted, an EMPTY slot. -/
def Lane.accepts (v : Nat) (l : Lane) : Bool := l.state == .active && l.variants.getLsbD v && decide (0 < l.empties)

/-- The EMPTY slot the lane's fill order takes (R124): the lowest-numbered, or the highest-numbered one. -/
def Lane.nextSlot (l : Lane) : Option Nat :=
  match l.fill with
  | .bottomUp => l.slots.findIdx? (· == .empty)
  | .topDown => (l.slots.reverse.findIdx? (· == .empty)).map fun i => l.slots.length - 1 - i

/-- Of two lanes, the one with fewer EMPTY slots, and the first of equal ones. -/
def fewerEmpty (best : Option (Nat × Lane)) (q : Nat × Lane) : Option (Nat × Lane) :=
  match best with
  | some b => if q.2.empties < b.2.empties then some q else some b
  | none => some q

/-- The lane and slot of a good board of a variant (R124); none when no lane qualifies. -/
def State.chooseSlot (s : State) (v : Nat) : Option Dest :=
  let lanes := (s.hand.lanes.zipIdx.map fun q => (q.2, q.1)).filter fun q => q.2.accepts v
  match lanes.foldl fewerEmpty none with
  | some q => q.2.nextSlot.map fun i => .lane q.1 i
  | none => none

/-- The conditions of selection (R123). -/
def State.canSelect (s : State) : Bool :=
  s.hand.service == none && s.hand.picker.state == .idle && s.running

/-- The picker angle of the active panel (R37). -/
def State.pickerAngle (s : State) : Int := s.locator.active.angle.getD 0

/-- The service as it begins to serve a board (R122, R125). -/
def Service.begin (id b : Nat) (d : Dest) : Service :=
  { panel := id, board := b, dest := d
    index := match d with | .bin => .notNeeded | .lane _ _ => .out
    early := .none, contingency := false, torn := false, window := none }

/-- Board b of the active panel is selected for a destination (R125). -/
def selectBoard (b : Nat) (r : Board) (d : Dest) (s : State) : State :=
  let id := s.activeId
  let s :=
    match d with
    | .bin => s
    | .lane k i => s.modLane k fun l => { l with slots := l.slots.set i .reserved }
  let s := { s with hand := { s.hand with service := some (Service.begin id b d) } }
  let s :=
    match d with
    | .bin => s
    | .lane k i => writeIndex k i s
  let s := writePicker .pick (.pick id b r.variant (r.corrected.getD r.nominal) s.pickerAngle) s
  let s := leavePickQueue b s
  s.modBoard .active b fun r => { r with state := .gripWait, dest := some d }

/-- The scan of the pick queue from the front (R124): the first board with an available destination is taken; a good board
passed because no lane qualifies raises MAGAZINE_FULL. A good board passed with the elevator out of service raises no notice,
also where no lane qualifies, which is the model's choice (notes/assumptions/49.md). -/
def scanQueue : List Nat → State → State
  | [], s => s
  | b :: rest, s =>
    match s.board .active b with
    | none => scanQueue rest s
    | some r =>
      if r.bad then selectBoard b r .bin s
      else if s.elevatorInService then
        match s.chooseSlot r.variant with
        | some d => selectBoard b r d s
        | none => scanQueue rest (raise (.magazineFull r.variant) s)
      else scanQueue rest s

/-- Pick selection tried (R123): at most one selection. -/
def trySelect (s : State) : State := if s.canSelect then scanQueue s.tracker.pickQueue s else s

/-! ### What closes an event -/

/-- The marks of the event in hand cleared. -/
def clearMarks (s : State) : State := { s with ev := EventMarks.clear }

/-- Pick selection tried when something in the event asked for it (R123). -/
def selectIfAsked (s : State) : State := if s.ev.select then trySelect s else s

/-- What follows the effects of an event, in the same event: the DONE condition and the close of a CLOSING panel are tested
(R48, R50), the handover unit's due orders are written (R129), selection is tried if asked (R123), and the arbiter runs (R85). -/
def settle (s : State) : State :=
  clearMarks (runArbiter (selectIfAsked (writeDue (testClose (testDone s)))))

/-! ### Gripping -/

/-- A PICK completes GRIPPED (R126): the board becomes GRIPPED and its release tab is granted (R63, R82). -/
def pickGripped (s : State) : State :=
  let s := endPickerOrder s
  match s.hand.service with
  | some v =>
    if s.servedState v = some .gripWait ∧ v.panel = s.activeId then
      let s := setBoardState .active v.board .gripped s
      match s.board .active v.board with
      | some r => grant r.releaseTab s
      | none => s
    else s
  | none => s

/-- A missed grip counted on board b (R63): RETAINED with PICK_FAILED at PICK_TRIES, else READY at the back of the pick queue,
a good board without destination. -/
def missBoard (b : Nat) (s : State) : State :=
  if s.boardState .active b = some .gripWait then
    let s := s.modBoard .active b fun r => { r with attempts := r.attempts + 1 }
    match s.board .active b with
    | some r =>
      if s.param .pickTries ≤ r.attempts then retain b .pickFailed s
      else
        joinPickBack b (s.modBoard .active b fun r =>
          { r with state := .ready, dest := if r.bad then r.dest else none })
    | none => s
  else s

/-- A grip ends MISSED (R126, R127): the order is over, a RESERVED slot returns to EMPTY, the service is FREE and the board is
settled. -/
def pickMissed (s : State) : State :=
  let s := endPickerOrder s
  match s.hand.service with
  | some v => missBoard v.board (freeService (releaseSlot v.dest s))
  | none => s

/-- A RETRACT completes OK: the board of a timed-out PICK is settled as MISSED (R127); after a withdrawal the picker becomes
IDLE and selection is tried (R128). -/
def retractOk (s : State) : State :=
  match s.hand.service with
  | some _ => pickMissed s
  | none => askSelect ((endPickerOrder s).modPicker fun p => { p with state := .idle })

/-! ### Lifting -/

/-- The board of the service becomes a state, when it is in the state `was`. -/
def moveServed (was now : BoardState) (s : State) : State :=
  match s.hand.service with
  | some v =>
    match s.panelRef v.panel with
    | some ref => if s.boardState ref v.board = some was then setBoardState ref v.board now s else s
    | none => s
  | none => s

/-- A LIFT completes OK (R130): the early lift state is LIFTED, and a FREE board becomes IN_TRANSIT (R65), whose PLACE is tried
(R136). -/
def liftOk (s : State) : State :=
  writePlace (moveServed .free .inTransit ((endPickerOrder s).modService fun v => { v with early := .lifted }))

/-- A LIFT completes DROPPED (R130): a FREE board is LOST; for a RELEASING one the early lift state is DROPPED. -/
def liftDropped (s : State) : State :=
  let s := endPickerOrder s
  match s.hand.service with
  | some v =>
    if s.servedState v = some .releasing then s.modService fun v => { v with early := .dropped }
    else
      match s.panelRef v.panel with
      | some ref => if s.boardState ref v.board = some .free then dropLifted ref v.board s else s
      | none => s
  | none => s

/-- The release tab of the board the service serves, of the active panel. -/
def State.servedRelease (s : State) : Option Nat :=
  match s.hand.service with
  | some v => if v.panel = s.activeId then (s.board .active v.board).map Board.releaseTab else none
  | none => none

/-- A STAY completes HELD (R133): the contingency is released, the early lift state is NONE, and the pending release tab is
settled by the last three rows of R94. -/
def stayHeld (s : State) : State :=
  let s := releaseContingency (endPickerOrder s)
  let s := s.modService fun v => { v with early := .none }
  match s.servedRelease with
  | some i =>
    match s.tab i with
    | some t =>
      match t.settlement with
      | some q => settleRelease q.head q.stopped q.how i (s.modTab i fun t => { t with settlement := none })
      | none => s
    | none => s
  | none => s

/-- A STAY completes ALREADY_LIFTED (R133, R134): the pending release tab becomes SKIPPED and the board is torn, on the picker. -/
def stayLifted (s : State) : State :=
  let s := endPickerOrder s
  match s.hand.service, s.servedRelease with
  | some v, some i => tornBoard v.board true (markSkipped i .withdrawn s)
  | _, _ => s

/-! ### Placing -/

/-- The board of the service becomes LOST, whatever panel holds it. -/
def loseServed (why : LostReason) (s : State) : State :=
  match s.hand.service with
  | some v =>
    match s.panelRef v.panel with
    | some ref => loseBoard ref v.board why s
    | none => s
  | none => s

/-- The board of the service becomes STACKED or BINNED and is counted (R65, R68). -/
def finishServed (now : BoardState) (count : Panel → Panel) (s : State) : State :=
  match s.hand.service with
  | some v =>
    match s.panelRef v.panel with
    | some ref =>
      if s.boardState ref v.board = some .inTransit then (setBoardState ref v.board now s).modPanel ref count else s
    | none => s
  | none => s

/-- The total stacked count rises by one, saturating at 65,535 (R43, R65). -/
def countStacked (s : State) : State :=
  { s with tracker := { s.tracker with totalStacked := min 65535 (s.tracker.totalStacked + 1) } }

/-- A PLACE completes OK (R134, R137 to R139). -/
def placeOk (s : State) : State :=
  let s := endPickerOrder s
  match s.hand.service with
  | none => s
  | some v =>
    if v.torn then freeService (fillBin (s.modService fun v => { v with contingency := false }))
    else
      match v.dest with
      | .bin => freeService (fillBin (finishServed .binned Panel.countBinned s))
      | .lane _ _ =>
        match v.window with
        | some .opened => s.modService fun v => { v with window := some (.closing (s.param .placeConfirm)) }
        | _ => freeService s

/-- A PLACE completes DROPPED (R134, R137 to R139). -/
def placeDropped (s : State) : State :=
  let s := endPickerOrder s
  match s.hand.service with
  | none => s
  | some v =>
    if v.torn then freeService (releaseContingency s)
    else
      match v.dest with
      | .bin => freeService (loseServed .dropped s)
      | .lane _ _ =>
        match v.window with
        | some _ => freeService (suspectSlot v.dest (loseServed .dropped s))
        | none => freeService s

/-- A placement is confirmed in the service's window (R137): the slot is FILLED, the board STACKED, the window ends, and the
service is FREE if its PLACE has completed (R139). -/
def confirmPlacement (v : Service) (s : State) : State :=
  let s := fillSlot v.dest s
  let s :=
    if s.servedState v = some .inTransit then countStacked (finishServed .stacked Panel.countStacked s) else s
  let s := s.modService fun v => { v with window := none }
  if s.hand.picker.order = none then freeService s else s

/-- A debounced activation of a lane's sensor (R143): it confirms a placement whose window is open, or is a stray. -/
def laneActivated (k : Nat) (s : State) : State :=
  match s.hand.service with
  | some v =>
    match v.window, v.dest with
    | some _, .lane j _ => if j = k then confirmPlacement v s else raise (.laneStray k) s
    | _, _ => raise (.laneStray k) s
  | none => raise (.laneStray k) s

/-- A CLOSING window ends unconfirmed (R137): the slot is SUSPECT, the board LOST, and the service FREE once the PLACE has
completed, which a CLOSING window shows it has. -/
def windowEnds (s : State) : State :=
  match s.hand.service with
  | some v =>
    match v.window with
    | some (.closing _) => freeService (suspectSlot v.dest (loseServed .unconfirmed s))
    | _ => s
  | none => s

/-- A stuck report (R143): an ACTIVE or FULL lane becomes JAMMED; LANE_JAM is raised unless it already was JAMMED. -/
def laneStuck (k : Nat) (s : State) : State :=
  match s.lane k with
  | some l =>
    match l.state with
    | .jammed => s
    | .absent => raise (.laneJam k) s
    | _ => raise (.laneJam k) (s.modLane k fun l => { l with state := .jammed })
  | none => s

/-! ### The elevator -/

/-- An INDEX completes OK (R135): the elevator is IDLE, the index state of a service with that lane and slot is DONE, and PLACE
is tried (R136). -/
def indexOk (s : State) : State :=
  match s.hand.elevator.order with
  | some o =>
    let s := s.modElevator fun e => { e with state := .idle, order := none, timer := none }
    writePlace (s.modService fun v => if v.dest = .lane o.lane o.slot then { v with index := .done } else v)
  | none => s

/-- The elevator enters FAULT (R120, R146): its INDEX is over, ELEVATOR_FAULT is raised, and a service with a lane
destination whose index state is OUT or DONE waits for it. -/
def elevatorFault (why : FaultReason) (s : State) : State :=
  if s.hand.elevator.state = .offline ∨ s.hand.elevator.state = .fault then s
  else
    let s := setLatch .elevator why s
    let s := s.modElevator fun e => { e with state := .fault, reason := some why, order := none, timer := none }
    let s := raise (.elevatorFault why) s
    s.modService fun v => if v.index = .out ∨ v.index = .done then { v with index := .waiting } else v

/-! ### The picker's fault -/

/-- A board returns to READY after a picker fault (R66): a good board loses its destination; with an abort mark it is RETAINED
instead, with no RETRACT (notes/assumptions/57.md). `front`: it joins the front of the pick queue now. -/
def returnReady (b : Nat) (front : Bool) (s : State) : State :=
  if s.abortMarked then retainNow b .aborted s
  else
    let s := s.modBoard .active b fun r => { r with state := .ready, dest := if r.bad then r.dest else none }
    if front then joinPickFront b s else s

/-- A RELEASING board whose release tab is ORDERED. -/
def State.releaseOut (s : State) (i : Nat) : Bool :=
  match s.tab i with
  | some t => t.state == .ordered
  | none => false

/-- "Picker fault" for board b of a panel (R66). -/
def faultBoard (ref : PanelRef) (b : Nat) (s : State) : State :=
  match s.board ref b with
  | none => s
  | some r =>
    match r.state with
    | .gripWait => returnReady b true (revoke r.releaseTab s)
    | .gripped => returnReady b true (revoke r.releaseTab s)
    | .releasing =>
      let out := s.releaseOut r.releaseTab
      let s := stopTab r.releaseTab .hold s
      let s := returnReady b (!out) s
      if out then s
      else s.modTab r.releaseTab fun t => { t with settlement := none }
    | .free => loseBoard ref b .pickerFault s
    | .inTransit => loseBoard ref b .pickerFault s
    | _ => s

/-- The picker enters FAULT (R121, R145): the order is over, PICKER_FAULT is raised, and the service is settled: a RESERVED
slot whose PLACE was written is SUSPECT, another EMPTY; the contingency is released; the service is FREE; the tracker settles
the board (R66). Two points are the model's choice: a withdrawal RETRACT that waits for RUN is dropped (notes/assumptions/48.md),
and the service is freed first, so that a board of a panel with an abort mark, which the fault makes RETAINED, is withdrawn with
no RETRACT (R61, R128; notes/assumptions/57.md). -/
def pickerFault (why : FaultReason) (s : State) : State :=
  if s.hand.picker.state = .offline ∨ s.hand.picker.state = .fault then s
  else
    let s := setLatch .picker why s
    let s := s.modPicker fun p =>
      { p with state := .fault, reason := some why, order := none, timer := none, retractDue := false }
    match s.hand.service with
    | none => raise (.pickerFault why none) s
    | some v =>
      let s := raise (.pickerFault why (some (v.panel, v.board))) s
      let s := if v.window.isSome then suspectSlot v.dest s else releaseSlot v.dest s
      let s := releaseContingency s
      let s := { s with hand := { s.hand with service := none } }
      if v.torn then s
      else
        match s.panelRef v.panel with
        | some ref => faultBoard ref v.board s
        | none => s

end Sys2Proof.Machine
end

