-- ==== Sys2Proof/Machine/Locate.lean ====
section
/-! DEFINITION. The locator (02): LOCATE (R26), its completion (R27), the transform and its checks (R30 to R37), the mapping
pass (R38, R39), the withdrawal of a location (R29); and the panel tracker's and the dispatcher's answers to it: a refused
location (R45, R46), cutting entry with queue building (R47, R78, R79), and the abort of a panel (R51 to R54). -/

namespace Sys2Proof.Machine

/-! ### Arithmetic (R30 to R37) -/

/-- The quotient of R30, for a positive denominator: rounded to the nearest integer, a half away from zero. -/
def roundDiv (n d : Int) : Int := if 0 ≤ n then (2 * n + d) / (2 * d) else -((2 * (-n) + d) / (2 * d))

/-- The difference of two points. -/
def Pt.sub (p q : Pt) : Pt := ⟨p.x - q.x, p.y - q.y⟩

/-- The sum of two points. -/
def Pt.add (p q : Pt) : Pt := ⟨p.x + q.x, p.y + q.y⟩

/-- The squared length of a vector (R31). -/
def Pt.sq (p : Pt) : Int := p.x * p.x + p.y * p.y

/-- One in Q20. -/
def q20 : Int := 1048576

/-- c of R31. -/
def transformC (dn dm : Pt) : Int := roundDiv ((dn.x * dm.x + dn.y * dm.y) * q20) dn.sq

/-- s of R31. -/
def transformS (dn dm : Pt) : Int := roundDiv ((dn.x * dm.y - dn.y * dm.x) * q20) dn.sq

/-- The mapping of R34. -/
def mapPoint (n0 m0 : Pt) (c s : Int) (p : Pt) : Pt :=
  let u := p.sub n0
  ⟨m0.x + roundDiv (c * u.x - s * u.y) q20, m0.y + roundDiv (s * u.x + c * u.y) q20⟩

/-- The scale check (R32). -/
def scaleOk (tol : Nat) (dn dm : Pt) : Bool := decide (|dm.sq - dn.sq| * 1000000 ≤ 2 * (tol : Int) * dn.sq)

/-- The rotation check (R33). -/
def rotationOk (limit : Nat) (s : Int) : Bool := decide (|s| ≤ (limit : Int))

/-- The third-mark check (R35): the mapped mark and the measured one. -/
def thirdOk (tol : Nat) (p2 m2 : Pt) : Bool := decide ((m2.sub p2).sq ≤ (tol : Int) * (tol : Int))

/-- The picker angle (R37). -/
def pickerAngleOf (s : Int) : Int := roundDiv (s * 1000000) q20

/-- The machine envelope, both ends included (R39). -/
def Pt.inEnvelope (p : Pt) : Bool := decide (0 ≤ p.x) && decide (p.x ≤ 720000) && decide (0 ≤ p.y) && decide (p.y ≤ 620000)

/-! ### The active panel's record -/

/-- The active panel's locator record. -/
def State.loc (s : State) : LocRec := s.locator.active

/-- The state with the active panel's locator record changed. -/
def State.modLoc (s : State) (f : LocRec → LocRec) : State :=
  { s with locator := { s.locator with active := f s.locator.active } }

/-! ### A refused location (R36, R45, R46) -/

/-- The stop reason of a refusal. -/
def LocOutcome.stopReason : LocOutcome → StopReason
  | .pass => .visionFault
  | .scale => .scale
  | .rotation => .rotation
  | .mismatch => .mismatch
  | .notFound => .notFound
  | .visionFault => .visionFault
  | .timeout => .timeout

/-- The active panel enters REFUSED (R46). -/
def enterRefused (o : LocOutcome) (s : State) : State :=
  let s := s.modPanel .active fun p =>
    { p with state := .refused, stop := some o.stopReason, pendingLoc := none }
  raise (.panelStopped s.activeId o.stopReason) (retainAll .fiducial s)

/-- "Location refused" reaches the panel tracker (R45): held while the expansion is in flight, else applied. -/
def locationRefused (o : LocOutcome) (s : State) : State :=
  match s.tracker.active with
  | some p =>
    if p.state = .locating then
      if p.expanding then s.modPanel .active fun p => { p with pendingLoc := some o } else enterRefused o s
    else s
  | none => s

/-- The record enters REFUSED with an outcome, and the refusal is reported (R36). -/
def refuse (o : LocOutcome) (detail : Option Nat) (s : State) : State :=
  locationRefused o
    (s.modLoc fun r => { r with state := .refused, outcome := some o, detail := detail, timer := none })

/-! ### Cutting entry (R47, R78, R79) -/

/-- The reach pass on one tab (R78): a PENDING tab that neither head reaches is SKIPPED, UNREACHABLE, and its boards are
retained. -/
def reachTab (s : State) (i : Nat) : State :=
  match s.tab i with
  | some t =>
    if t.state = .pending ∧ s.reaches .a t = false ∧ s.reaches .b t = false then
      retainJoined t .unreachable (markSkipped i .unreachable s)
    else s
  | none => s

/-- The building pass on a release tab (R78, R79). -/
def buildRelease (s : State) (i : Nat) : State :=
  match s.tab i with
  | some t =>
    if t.state = .pending ∧ t.release then
      if t.unreachable then markSkipped i .unreachable s
      else s.modTab i fun t => { t with state := .held, place := none }
    else s
  | none => s

/-- The building pass on a tab of a kind without the release flag (R78, R79). -/
def buildTab (k : TabKind) (s : State) (i : Nat) : State :=
  match s.tab i with
  | some t =>
    if t.state = .pending ∧ t.release = false ∧ t.kind = k then
      if t.unreachable then markSkipped i .unreachable s else putTab i (s.assign t) false s
    else s
  | none => s

/-- Queue building (R78): the reach pass, then release tabs HELD, SHARED tabs and FRAME tabs assigned, each in index order. -/
def buildQueues (s : State) : State :=
  let l := List.range s.disp.tabs.length
  let s := l.foldl reachTab s
  let s := l.foldl buildRelease s
  let s := l.foldl (buildTab .shared) s
  l.foldl (buildTab .frame) s

/-- Every board tested for readiness, in index order (R47, step 3). -/
def testAllReady (s : State) : State :=
  (List.range (s.boards .active).length).foldl (fun s b => testReady b s) s

/-- "Location passed" reaches the panel tracker (R45, R47): the panel enters CUTTING, pairing is evaluated, the queues are built
and readiness is tested; the DONE condition is tested as the event closes. -/
def locationPassed (s : State) : State :=
  let s := s.modPanel .active fun p => { p with state := .cutting }
  testAllReady (buildQueues (evalPairing s))

/-! ### The mapping pass (R38, R39) -/

/-- A tab entry mapped and tested against the envelope. -/
def Tab.mapped (f : Pt → Pt) (t : Tab) : Tab :=
  { t with
    corStart := some (f t.nomStart), corEnd := some (f t.nomEnd)
    unreachable := !((f t.nomStart).inEnvelope && (f t.nomEnd).inEnvelope) }

/-- A board entry mapped and tested against the envelope. -/
def Board.mapped (f : Pt → Pt) (b : Board) : Board :=
  { b with corrected := some (f b.nominal), unreachable := !(f b.nominal).inEnvelope }

/-- The map of the active panel's record (R34). -/
def LocRec.map (r : LocRec) (p : Pt) : Pt :=
  mapPoint (r.n0.getD ⟨0, 0⟩) (r.m0.getD ⟨0, 0⟩) (r.c.getD 0) (r.s.getD 0) p

/-- The boards a marked tab joins are retained (R47, step 1). -/
def retainMarkedTab (s : State) (i : Nat) : State :=
  match s.tab i with
  | some t => if t.unreachable then retainJoined t .unreachable s else s
  | none => s

/-- A marked board is retained (R47, step 1). -/
def retainMarkedBoard (s : State) (b : Nat) : State :=
  match s.board .active b with
  | some r => if r.unreachable then retain b .unreachable s else s
  | none => s

/-- The marks handed to the panel tracker (R39; R47, step 1). -/
def retainMarked (s : State) : State :=
  let s := (List.range (s.boards .active).length).foldl retainMarkedBoard s
  (List.range s.disp.tabs.length).foldl retainMarkedTab s

/-- The active panel's tables mapped (R38, R39), and the record MAPPED. -/
def mapTables (s : State) : State :=
  let f := s.loc.map
  let s := { s with disp := { s.disp with tabs := s.disp.tabs.map (Tab.mapped f) } }
  let s :=
    match s.tracker.active with
    | some p => s.setHalf p.half ((s.half p.half).map (Board.mapped f))
    | none => s
  s.modLoc fun r => { r with state := .mapped }

/-- The mapping pass runs once the record is PASSED and the expansion is complete; the marks are handed over and the pass is
reported (R38, R39). -/
def tryMapping (s : State) : State :=
  match s.tracker.active with
  | some p =>
    if s.loc.state = .passed ∧ p.expanding = false then locationPassed (retainMarked (mapTables s)) else s
  | none => s

/-! ### LOCATE and its completion (R26, R27) -/

/-- LOCATE is issued, or the panel refused, when the record is WAITING and the cell in RUN (R26). -/
def issueLocate (s : State) : State :=
  if s.loc.state = .waiting ∧ s.running then
    if s.visionState = .offline ∨ s.visionState = .fault then refuse .visionFault none s
    else
      let r := s.loc
      (writeOrder .vision
        (.locate (r.panel.getD 0) (r.s0.getD ⟨0, 0⟩) (r.s1.getD ⟨0, 0⟩) (if r.wantF2 then r.s2 else none)) s).modLoc
        fun r => { r with state := .measuring }
  else s

/-- The outcome of a FOUND completion (R36), from the record with its marks and transform. -/
def State.outcomeOf (s : State) (r : LocRec) (dn dm : Pt) : LocOutcome :=
  if scaleOk (s.param .scaleTol) dn dm = false then .scale
  else if rotationOk (s.param .rotLimit) (r.s.getD 0) = false then .rotation
  else if r.wantF2 ∧ thirdOk (s.param .fidTol) (r.map (r.n2.getD ⟨0, 0⟩)) (r.m2.getD ⟨0, 0⟩) = false then .mismatch
  else .pass

/-- A LOCATE completes FOUND (R27, R31 to R37). -/
def locateFound (m0 m1 m2 : Pt) (s : State) : State :=
  let r := s.loc
  let dn := (r.n1.getD ⟨0, 0⟩).sub (r.n0.getD ⟨0, 0⟩)
  let dm := m1.sub m0
  let r := { r with
    m0 := some m0, m1 := some m1, m2 := if r.wantF2 then some m2 else none
    c := some (transformC dn dm), s := some (transformS dn dm), timer := none }
  let s := s.modLoc fun _ => r
  match s.outcomeOf r dn dm with
  | .pass =>
    tryMapping (s.modLoc fun r =>
      { r with state := .passed, outcome := some .pass, angle := some (pickerAngleOf (r.s.getD 0)) })
  | o => refuse o none s

/-- The lowest mark index a status record lists as not found, among the marks wanted (R197). -/
def lowestMissing (three : Bool) (b : Byte) : Option Nat :=
  (if three then [0, 1, 2] else [0, 1]).find? fun i => b.getLsbD i

/-- A LOCATE completes (R27); acted on in MEASURING only. -/
def locateDone (res : Result) (st : Status) (s : State) : State :=
  if s.loc.state = .measuring then
    match res with
    | .found => locateFound st.m0 st.m1 st.m2 s
    | .notFound => refuse .notFound (lowestMissing s.loc.wantF2 st.missing) s
    | _ => refuse .visionFault none s
  else s

/-- The vision node enters FAULT (R28, R172): the latch is set, and a record in MEASURING withdraws its LOCATE and is
refused. -/
def visionFault (why : FaultReason) (s : State) : State :=
  let s := setLatch .vision why s
  if s.loc.state = .measuring then refuse .visionFault none (writeOrder .vision .none s) else s

/-- A record is withdrawn by an abort (R29). -/
def abandonLoc (s : State) : State :=
  match s.loc.state with
  | .waiting => s.modLoc fun r => { r with state := .abandoned }
  | .measuring => (writeOrder .vision .none s).modLoc fun r => { r with state := .abandoned, timer := none }
  | .passed => s.modLoc fun r => { r with state := .abandoned }
  | _ => s

/-! ### Aborting the active panel (R51 to R54) -/

/-- An abort applied to a LOCATING panel whose expansion is complete (R52). -/
def applyAbort (s : State) : State := panelDone (retainAll .aborted s)

/-- The active panel takes an abort mark (R51, R54) and the abort is applied (R52, R53). -/
def abortActive (mark : AbortMark) (why : StopReason) (s : State) : State :=
  match s.tracker.active with
  | none => s
  | some p =>
    let s := s.modPanel .active fun p => { p with abort := some mark, stop := some why }
    let s := raise (.panelStopped p.id why) s
    match p.state with
    | .locating =>
      let s := abandonLoc s
      if p.expanding then s else applyAbort s
    | .cutting => retainAll .aborted (stopHeads .abort s)
    | _ => s

/-- The panel may be aborted: LOCATING with no refusal pending, or CUTTING, with no abort mark (R51, R54). -/
def Panel.abortable (p : Panel) : Bool :=
  p.abort == none &&
    (match p.state with
      | .locating => p.pendingLoc == none
      | .cutting => true
      | _ => false)

/-- "Clamp lost" reaches the panel tracker (R54). -/
def clampLost (s : State) : State :=
  match s.tracker.active with
  | some p => if p.abortable then abortActive .unclamped .unclamped s else s
  | none => s

end Sys2Proof.Machine
end

