-- ==== Sys2Proof/Machine/Recipes.lean ====
section
/-! DEFINITION. Recipes (01): the store and IN_USE (R1, R2), item ranges (R3), the walk with its shortcut (R4 to R7, R17),
validation (R11 to R15), and the expansion of the active panel (R18 to R21). -/

namespace Sys2Proof.Machine

/-! ### The store -/

/-- A recipe slot's record. -/
def State.slotRec (s : State) (i : Nat) : Option RecipeSlot := s.recipes.slots[i]?

/-- The state with a recipe slot changed, when it exists. -/
def State.modSlot (s : State) (i : Nat) (f : RecipeSlot → RecipeSlot) : State :=
  { s with recipes := { s.recipes with slots := s.recipes.slots.modify i f } }

/-- The number of filled offsets of a slot. -/
def RecipeSlot.filled (r : RecipeSlot) : Nat := r.items.countP Option.isSome

/-- A slot is named in the announce queue, or the active panel is being expanded from it (R2). -/
def State.named (s : State) (i : Nat) : Bool :=
  s.tracker.announce.any (fun a => a.slot == i) ||
    (match s.tracker.active with
      | some p => p.expanding && p.slot == i
      | none => false)

/-- IN_USE (R2). -/
def State.inUse (s : State) (i : Nat) : Bool :=
  match s.slotRec i with
  | some r => r.mode == .ready && s.named i
  | none => false

/-- A request that changes the slot is refused BUSY: VALIDATING, or READY and IN_USE (R8, R10, R11). -/
def State.slotBusy (s : State) (i : Nat) : Bool :=
  match s.slotRec i with
  | some r => r.mode == .validating || s.inUse i
  | none => false

/-! ### Item ranges (R3) -/

/-- An integer between two bounds, both included. -/
def within (lo hi z : Int) : Bool := decide (lo ≤ z) && decide (z ≤ hi)

/-- A relative coordinate of R3. -/
def relOk (z : Int) : Bool := within (-650000) 650000 z

/-- An absolute coordinate of the recipe space. -/
def absOk (z : Int) : Bool := within 0 650000 z

/-- A point inside the recipe space (R13). -/
def Pt.absOk (p : Pt) : Bool := Machine.absOk p.x && Machine.absOk p.y

/-- Every operand of an item in its range (R3, R198). -/
def itemOk : Item → Bool
  | .fiducial i x y => decide (i ≤ 2) && absOk x && absOk y
  | .board v dx dy gx gy =>
    decide (v ≤ 15) && relOk dx && relOk dy && within (-100000) 100000 gx && within (-100000) 100000 gy
  | .tab k _ dx dy l f d =>
    relOk dx && relOk dy && decide (500 ≤ l) && decide (l ≤ 20000) && decide (f ≤ 3) &&
      (match k with
        | .shared => decide (1 ≤ d) && decide (d ≤ 16)
        | .frame => d == 0)
  | .opn c dx dy => decide (1 ≤ c) && decide (c ≤ 64) && relOk dx && relOk dy
  | .cls => true
  | .exitAfter n => decide (n ≤ 63)

/-- An item of a load that may be stored (R8, check 3). -/
def loadItemOk : LoadItem → Bool
  | .known i => itemOk i
  | .unknown => false

/-- The items of a load. -/
def loadItems (l : List LoadItem) : List Item :=
  l.filterMap fun i =>
    match i with
    | .known i => some i
    | .unknown => none

/-! ### The walk (R4 to R7, R17) -/

/-- A frame of the repeat stack (R4), with the mark that its iteration in hand produced a board or a tab (R17). -/
structure WFrame where
  offset : Nat
  count : Nat
  iter : Nat
  pitch : Pt
  made : Bool
deriving DecidableEq, Repr

/-- A board as the walk produces it (R5, R6, R7): `tabs` its tab count, `release` its last FRAME tab. -/
structure WBoard where
  variant : Nat
  grip : Pt
  tabs : Nat
  release : Option Nat
deriving DecidableEq, Repr

/-- A tab as the walk produces it (R6). -/
structure WTab where
  kind : TabKind
  owner : Nat
  linked : Option Nat
  start : Pt
  stop : Pt
  len : Nat
  feed : Nat
deriving DecidableEq, Repr

/-- A walk in hand: the offset to visit, the stack (top first), the boards and tabs so far. -/
structure Walk where
  pos : Nat
  stack : List WFrame
  boards : List WBoard
  tabs : List WTab
deriving DecidableEq, Repr

/-- The start of a walk (R4). -/
def Walk.begin : Walk := { pos := 0, stack := [], boards := [], tabs := [] }

/-- How a walk ends. -/
inductive WalkEnd where
  | whole (w : Walk)
  | error (code : Code) (detail : Nat)
deriving DecidableEq, Repr

/-- What one visit gives. -/
inductive Visit where
  | go (w : Walk)
  | error (code : Code) (detail : Nat)
deriving DecidableEq, Repr

/-- A frame's share of the current origin. -/
def WFrame.offsetPt (f : WFrame) : Pt := ⟨f.iter * f.pitch.x, f.iter * f.pitch.y⟩

/-- The current origin (R4). -/
def Walk.origin (w : Walk) : Pt := w.stack.foldl (fun p f => p.add f.offsetPt) ⟨0, 0⟩

/-- The offset of the CLOSE that matches an OPEN whose following items are `l`, at offset `i` on; `depth` OPENs are open
(R4). -/
def matchClose : Nat → Nat → List (Option Item) → Option Nat
  | _, _, [] => none
  | i, depth, it :: rest =>
    match it with
    | some (.opn _ _ _) => matchClose (i + 1) (depth + 1) rest
    | some .cls => if depth = 1 then some i else matchClose (i + 1) (depth - 1) rest
    | _ => matchClose (i + 1) depth rest

/-- Every frame on the stack marked as productive (R17). -/
def markMade (l : List WFrame) : List WFrame := l.map fun f => { f with made := true }

/-- A BOARD visited (R5, R13). -/
def visitBoard (w : Walk) (v : Nat) (d g : Pt) : Visit :=
  let o := w.origin.add d
  let grip := o.add g
  if 96 ≤ w.boards.length then .error .tooManyBoards w.pos
  else if (o.absOk && grip.absOk) = false then .error .rangeCoord w.pos
  else
    .go { w with
      pos := w.pos + 1, stack := markMade w.stack
      boards := w.boards ++ [{ variant := v, grip := grip, tabs := 0, release := none }] }

/-- The start point of a cut (R6): L/2, rounded down, before the centre along the orientation axis. -/
def cutStart (o : Orient) (len : Nat) (p : Pt) : Pt :=
  match o with
  | .h => ⟨p.x - ((len / 2 : Nat) : Int), p.y⟩
  | .v => ⟨p.x, p.y - ((len / 2 : Nat) : Int)⟩

/-- The end point of a cut (R6): the start plus L along the orientation axis. -/
def cutEnd (o : Orient) (len : Nat) (p : Pt) : Pt :=
  match o with
  | .h => ⟨(cutStart .h len p).x + (len : Int), p.y⟩
  | .v => ⟨p.x, (cutStart .v len p).y + (len : Int)⟩

/-- A board takes one more tab; a FRAME tab of it becomes its release tab (R6, R7). -/
def WBoard.join (release : Option Nat) (b : WBoard) : WBoard :=
  { b with tabs := b.tabs + 1, release := if release.isSome then release else b.release }

/-- The board already has 12 tabs (R6). -/
def fullBoard (l : List WBoard) (i : Nat) : Bool :=
  match l[i]? with
  | some b => decide (12 ≤ b.tabs)
  | none => false

/-- A TAB visited (R6, R13). -/
def visitTab (w : Walk) (k : TabKind) (o : Orient) (d : Pt) (len feed link : Nat) : Visit :=
  let p := w.origin.add d
  let a := cutStart o len p
  let b := cutEnd o len p
  let own := w.boards.length - 1
  let other := own - link
  let shared := k == .shared
  if w.boards.length = 0 then .error .orphanTab w.pos
  else if 384 ≤ w.tabs.length then .error .tooManyTabs w.pos
  else if shared ∧ own < link then .error .badLink w.pos
  else if (a.absOk && b.absOk) = false then .error .rangeCoord w.pos
  else if fullBoard w.boards own ∨ (shared ∧ fullBoard w.boards other) then .error .tabsPerBoard w.pos
  else
    let i := w.tabs.length
    let l := w.boards.modify own (WBoard.join (if shared then none else some i))
    .go { w with
      pos := w.pos + 1, stack := markMade w.stack
      boards := if shared then l.modify other (WBoard.join none) else l
      tabs := w.tabs ++ [{ kind := k, owner := own, linked := if shared then some other else none,
                           start := a, stop := b, len := len, feed := feed }] }

/-- A CLOSE visited (R4, R13): the next iteration of the top frame, or its end; a frame whose iteration produced nothing ends
at once (R17). -/
def visitClose (w : Walk) : Visit :=
  match w.stack with
  | [] => .error .unbalanced w.pos
  | f :: rest =>
    if f.made ∧ f.iter + 1 < f.count then
      .go { w with pos := f.offset + 1, stack := { f with iter := f.iter + 1, made := false } :: rest }
    else .go { w with pos := w.pos + 1, stack := rest }

/-- An EXIT_AFTER visited (R4, R13). -/
def visitExit (items : List (Option Item)) (w : Walk) (n : Nat) : Visit :=
  match w.stack with
  | [] => .error .unbalanced w.pos
  | f :: rest =>
    if f.iter = n then
      match matchClose (f.offset + 1) 1 (items.drop (f.offset + 1)) with
      | some c => .go { w with pos := c + 1, stack := rest }
      | none => .error .unbalanced f.offset
    else .go { w with pos := w.pos + 1 }

/-- One visit (R4, R13). `items` are those below the declared count. -/
def visit (items : List (Option Item)) (w : Walk) : Visit :=
  match items[w.pos]? with
  | some (some i) =>
    match i with
    | .fiducial _ _ _ =>
      if w.stack = [] then .go { w with pos := w.pos + 1 } else .error .fiducialInRepeat w.pos
    | .board v dx dy gx gy => visitBoard w v ⟨dx, dy⟩ ⟨gx, gy⟩
    | .tab k o dx dy l f d => visitTab w k o ⟨dx, dy⟩ l f d
    | .opn c dx dy =>
      if 4 ≤ w.stack.length then .error .depth w.pos
      else
        .go { w with
          pos := w.pos + 1
          stack := { offset := w.pos, count := c, iter := 0, pitch := ⟨dx, dy⟩, made := false } :: w.stack }
    | .cls => visitClose w
    | .exitAfter n => visitExit items w n
  | _ => .go { w with pos := w.pos + 1 }

/-- The walk (R4) over the items below the declared count, for at most `fuel` visits. A walk that ran out of visits would not be
whole; `walkFuel` is more than any walk makes. -/
def walk (items : List (Option Item)) : Nat → Walk → WalkEnd
  | 0, w => .error .unbalanced w.pos
  | fuel + 1, w =>
    if items.length ≤ w.pos then
      match w.stack with
      | [] => .whole w
      | f :: _ => .error .unbalanced f.offset
    else
      match visit items w with
      | .go w => walk items fuel w
      | .error c d => .error c d

/-- More visits than any walk makes. A walk produces at most 480 boards and tabs; between two of them each of at most 4 frames
goes round at most once (R17), so at most 5 runs over at most 512 offsets lie between them. -/
def walkFuel : Nat := 1300000

/-- The items below a slot's declared count. -/
def RecipeSlot.program (r : RecipeSlot) : List (Option Item) := r.items.take (r.declared.getD 0)

/-- The walk of a slot's recipe. -/
def RecipeSlot.walk (r : RecipeSlot) : WalkEnd := Machine.walk r.program walkFuel Walk.begin

/-! ### Validation (R12 to R15) -/

/-- An error of a validation, with its detail. -/
abbrev ValError := Code × Nat

/-- The lowest filled offset at or above `n`. -/
def firstFilledFrom (items : List (Option Item)) (n : Nat) : Option Nat :=
  ((items.drop n).findIdx? Option.isSome).map (· + n)

/-- The filling tested (R12): the detail of GAP, or none when it is whole. -/
def RecipeSlot.gap (r : RecipeSlot) : Option Nat :=
  match r.program.findIdx? Option.isNone with
  | some i => some i
  | none => firstFilledFrom r.items (r.declared.getD 0)

/-- The check sequence over the ring encodings of a program's items, in offset order (R12, R198). -/
def itemCheck (items : List (Option Item)) : Nat :=
  (checkSeq (items.flatMap fun i =>
    match i with
    | some i => encodeItem i
    | none => [])).toNat

/-- The index and position of an item that is a FIDUCIAL. -/
def fidOf : Option Item → Option (Nat × Pt)
  | some (.fiducial i x y) => some (i, ⟨x, y⟩)
  | _ => none

/-- The FIDUCIAL items of a program: offset, index, position, in offset order. -/
def fids (items : List (Option Item)) : List (Nat × Nat × Pt) :=
  items.zipIdx.filterMap fun q => (fidOf q.1).map fun v => (q.2, v)

/-- The first FIDUCIAL with an index: its offset and position. -/
def fidAt (items : List (Option Item)) (i : Nat) : Option (Nat × Pt) :=
  ((fids items).find? fun q => q.2.1 == i).map fun q => (q.1, q.2.2)

/-- The lowest offset of a FIDUCIAL whose index appears at a lower offset (R14). -/
def dupFid : List (Nat × Nat × Pt) → List Nat → Option Nat
  | [], _ => none
  | q :: rest, seen => if seen.contains q.2.1 then some q.1 else dupFid rest (q.2.1 :: seen)

/-- The four checks after the walk (R14). -/
def afterWalk (items : List (Option Item)) (w : Walk) : Option ValError :=
  match fidAt items 0, fidAt items 1 with
  | none, _ => some (.noFiducial, 0)
  | some _, none => some (.noFiducial, 1)
  | some p0, some p1 =>
    match dupFid (fids items) [] with
    | some o => some (.dupFiducial, o)
    | none =>
      if (p1.2.sub p0.2).sq < 2500000000 then some (.fidTooClose, p1.1)
      else (w.boards.findIdx? fun b => b.release.isNone).map fun b => (.floatingBoard, b)

/-- What a validation finds (R12 to R14): its first error, or the boards and tabs of the walk. -/
def RecipeSlot.validate (r : RecipeSlot) : ValError ⊕ Walk :=
  match r.gap with
  | some d => .inl (.gap, d)
  | none =>
    let c := itemCheck r.program
    if some c ≠ r.validation.map Validation.check then .inl (.checkMismatch, c)
    else
      match r.walk with
      | .error c d => .inl (c, d)
      | .whole w =>
        match afterWalk r.program w with
        | some e => .inl e
        | none => .inr w

/-- The fiducials a program holds (R1). -/
def fidSet (items : List (Option Item)) : FidSet :=
  { f0 := (fidAt items 0).isSome, f1 := (fidAt items 1).isSome, f2 := (fidAt items 2).isSome }

/-- A slot made READY (R15). Its last result is OK with an absent detail, which is the model's choice
(notes/assumptions/43.md). -/
def RecipeSlot.toReady (w : Walk) (r : RecipeSlot) : RecipeSlot :=
  { r with
    mode := .ready, boards := some w.boards.length, tabs := some w.tabs.length, fids := some (fidSet r.program)
    result := some { code := .ok, detail := none }, validation := none }

/-- A slot made FAULTY (R15). -/
def RecipeSlot.toFaulty (e : ValError) (r : RecipeSlot) : RecipeSlot :=
  { r with mode := .faulty, result := some { code := e.1, detail := some e.2 }, validation := none }

/-- The slot after its validation, with the reply's code and data (R15, 10.6). -/
def RecipeSlot.finish (r : RecipeSlot) : RecipeSlot × Code × List Byte :=
  match r.validate with
  | .inl e => (r.toFaulty e, e.1, wordBytes e.2)
  | .inr w => (r.toReady w, .ok, byteOf w.boards.length :: wordBytes w.tabs.length)

/-- A validation's reply joins the reply queue on its reserved place (R178). -/
def replyReserved (r : Reply) (s : State) : State :=
  pushReply r { s with req := { s.req with reserved := s.req.reserved - 1 } }

/-- A validation ends (R15); a slot that is not VALIDATING has none. -/
def endValidation (i : Nat) (s : State) : State :=
  match s.slotRec i with
  | some r =>
    match r.validation with
    | some v =>
      if r.mode = .validating then
        let e := r.finish
        replyReserved { dest := v.src, tag := v.tag, kind := 2, code := e.2.1, data := e.2.2 }
          (s.modSlot i fun _ => e.1)
      else s
    | none => s
  | none => s

/-! ### Expansion (R18 to R21) -/

/-- A board entry as the expander writes it (R19). -/
def expandBoard (bad : List Nat) (b : WBoard) (i : Nat) : Board :=
  { index := i, variant := b.variant, bad := bad.contains i, state := .attached, openTabs := b.tabs
    releaseTab := b.release.getD 0, nominal := b.grip, corrected := none, unreachable := false, attempts := 0
    dest := none }

/-- A tab entry as the expander writes it (R20). -/
def expandTab (boards : List WBoard) (t : WTab) (i : Nat) : Tab :=
  { index := i, kind := t.kind, owner := t.owner, linked := t.linked
    release := (boards[t.owner]?.bind WBoard.release) == some i
    nomStart := t.start, nomEnd := t.stop, corStart := none, corEnd := none, unreachable := false, len := t.len
    feed := t.feed, attempts := 0, state := .pending, skipReason := none, standing := false, place := none
    cutHead := none, settlement := none, lastCut := none, peak := none }

/-- The boards and tabs of a slot's walk; the walk of a READY slot meets no error (R18). -/
def RecipeSlot.produced (r : RecipeSlot) : List WBoard × List WTab :=
  match r.walk with
  | .whole w => (w.boards, w.tabs)
  | .error _ _ => ([], [])

/-- The tables of the active panel written from its slot (R19, R20). -/
def writeTables (p : Panel) (s : State) : State :=
  match s.slotRec p.slot with
  | some r =>
    let q := r.produced
    let s := s.setHalf p.half (q.1.zipIdx.map fun b => expandBoard p.bad b.1 b.2)
    { s with disp := { s.disp with tabs := q.2.zipIdx.map fun t => expandTab q.1 t.1 t.2 } }
  | none => s

/-- "Expansion complete" (R21): the tables are whole and IN_USE ends; then a pending abort or refusal is applied, or the
mapping pass runs (R22, R38, R45, R52). -/
def expansionDone (s : State) : State :=
  match s.tracker.active with
  | some p =>
    if p.expanding then
      let s := (writeTables p s).modPanel .active fun p => { p with expanding := false }
      if p.abort.isSome then applyAbort s
      else
        match p.pendingLoc with
        | some o => enterRefused o s
        | none => tryMapping s
    else s
  | none => s

end Sys2Proof.Machine
end

