-- ==== Sys2Proof/Machine/Panels.lean ====
section
/-! DEFINITION. What handling a request does and answers, for recipes (R8 to R11) and panels (R42, R44, R49, R51). An answer is
the state after the request's effect, with the result code and data of its reply; no reply yet for an accepted commit (R178). -/

namespace Sys2Proof.Machine

/-- The effect of a request with the reply it gives. -/
abbrev Act := State × Option (Code × List Byte)

/-- Answered OK with no data. -/
def accepted (s : State) : Act := (s, some (.ok, []))

/-- Answered with a code, nothing changed. -/
def answered (c : Code) (s : State) : Act := (s, some (c, []))

/-! ### Recipes -/

/-- Items written at consecutive offsets (R9). -/
def writeItems : List Item → Nat → List (Option Item) → List (Option Item)
  | [], _, l => l
  | i :: rest, o, l => writeItems rest (o + 1) (l.set o (some i))

/-- The target offsets of a load that are unfilled (R8). -/
def unfilled (l : List (Option Item)) (offset n : Nat) : Nat := ((l.drop offset).take n).countP Option.isNone

/-- A slot after an accepted load (R9). -/
def RecipeSlot.load (offset : Nat) (items : List Item) (r : RecipeSlot) : RecipeSlot :=
  { r with mode := .loading, items := writeItems items offset r.items, boards := none, tabs := none, fids := none, result := none }

/-- RECIPE_LOAD (R8, R9). -/
def doRecipeLoad (slot offset count : Nat) (items : List LoadItem) (s : State) : Act :=
  match s.slotRec slot with
  | none => answered .range s
  | some r =>
    if 512 ≤ offset ∨ count = 0 ∨ 12 < count then answered .range s
    else if s.slotBusy slot then answered .busy s
    else if items.all loadItemOk = false then answered .range s
    else
      let l := loadItems items
      if 512 < offset + l.length then answered .tooLong s
      else if 2048 < s.recipes.total + unfilled r.items offset l.length then answered .storeFull s
      else
        let s' := s.modSlot slot (RecipeSlot.load offset l)
        accepted { s' with recipes := { s'.recipes with total := s.recipes.total + unfilled r.items offset l.length } }

/-- A slot after an accepted commit (R11). -/
def RecipeSlot.commit (count check src tag : Nat) (r : RecipeSlot) : RecipeSlot :=
  { r with
    mode := .validating, declared := some count, boards := none, tabs := none, fids := none, result := none
    validation := some { check := check, src := src, tag := tag } }

/-- RECIPE_COMMIT (R11): accepted, it takes a reply place and its one reply waits (R178). -/
def doRecipeCommit (src tag slot count check : Nat) (s : State) : Act :=
  match s.slotRec slot with
  | none => answered .range s
  | some r =>
    if count = 0 ∨ 512 < count then answered .range s
    else if s.slotBusy slot then answered .busy s
    else if r.mode = .empty then answered .badState s
    else
      let s := s.modSlot slot (RecipeSlot.commit count check src tag)
      ({ s with req := { s.req with reserved := s.req.reserved + 1 } }, none)

/-- RECIPE_DROP (R10). -/
def doRecipeDrop (slot : Nat) (s : State) : Act :=
  match s.slotRec slot with
  | none => answered .range s
  | some r =>
    if s.slotBusy slot then answered .busy s
    else
      let s' := s.modSlot slot fun _ => RecipeSlot.reset
      accepted { s' with recipes := { s'.recipes with total := s.recipes.total - r.filled } }

/-! ### Panels -/

/-- A list holds no index twice. -/
def distinct (l : List Nat) : Bool := decide l.Nodup

/-- The id of a panel in the announce queue, of the active or of the closing panel (R42). -/
def State.idUsed (s : State) (id : Nat) : Bool :=
  s.tracker.announce.any (fun a => a.id == id) || (s.panelRef id).isSome

/-- PANEL_ANNOUNCE (R42). -/
def doPanelAnnounce (id slot : Nat) (bad : List Nat) (s : State) : Act :=
  match s.slotRec slot with
  | none => answered .range s
  | some r =>
    if 96 < bad.length ∨ bad.all (fun i => decide (i < 96)) = false ∨ distinct bad = false then answered .range s
    else if 2 ≤ s.tracker.announce.length then answered .queueFull s
    else if r.mode ≠ .ready then answered .notReady s
    else if s.idUsed id then answered .duplicate s
    else if bad.all (fun i => decide (i < r.boards.getD 0)) = false then answered .range s
    else
      accepted { s with tracker := { s.tracker with
        announce := s.tracker.announce ++ [{ id := id, slot := slot, bad := bad }] } }

/-- The lower-numbered board half that no closing panel holds (R44). -/
def State.freeHalf (s : State) : Half :=
  match s.tracker.closing with
  | some p => if p.half = .h0 then .h1 else .h0
  | none => .h0

/-- A new panel record (R44). -/
def Panel.begin (a : Announce) (boards tabs : Nat) (half : Half) : Panel :=
  { id := a.id, slot := a.slot, bad := a.bad, state := .locating, boardCount := boards, tabCount := tabs, half := half
    expanding := true, pendingLoc := none, abort := none, stop := none
    tally := { stacked := 0, binned := 0, retained := 0, lost := 0 } }

/-- A locator record that enters WAITING, with its search positions (R18, R25). -/
def LocRec.begin (id : Nat) (n0 n1 n2 : Option Pt) (fixture : Pt) : LocRec :=
  { LocRec.free with
    state := .waiting, panel := some id, wantF2 := n2.isSome, n0 := n0, n1 := n1, n2 := n2
    s0 := n0.map fixture.add, s1 := n1.map fixture.add, s2 := n2.map fixture.add }

/-- The nominal position of a fiducial of a slot (R18). -/
def RecipeSlot.nominal (r : RecipeSlot) (i : Nat) : Option Pt := (fidAt r.program i).map Prod.snd

/-- The front announced panel becomes the active panel (R44, R25), and its LOCATE is issued if the cell is in RUN (R26). -/
def startPanel (a : Announce) (rest : List Announce) (r : RecipeSlot) (s : State) : State :=
  let fixture : Pt := ⟨(s.param .fixtureX : Int), (s.param .fixtureY : Int)⟩
  let p := Panel.begin a (r.boards.getD 0) (r.tabs.getD 0) s.freeHalf
  let s := { s with tracker := { s.tracker with announce := rest, active := some p } }
  let s := s.modLoc fun _ => LocRec.begin a.id (r.nominal 0) (r.nominal 1) (r.nominal 2) fixture
  issueLocate s

/-- PANEL_START (R44). -/
def doPanelStart (s : State) : Act :=
  if s.tracker.active.isSome then answered .busy s
  else if s.lines.clamp.cond = false then answered .notClamped s
  else
    match s.tracker.announce with
    | [] => answered .emptyQueue s
    | a :: rest =>
      match s.slotRec a.slot with
      | some r => (startPanel a rest r s, some (.ok, wordBytes a.id ++ [byteOf a.slot]))
      | none => answered .notReady s

/-- The active panel becomes the closing panel (R49). -/
def startClosing (s : State) : State :=
  { s with
    tracker := { s.tracker with
      active := none, closing := s.tracker.active.map fun p => { p with state := .closing } }
    disp := { s.disp with tabs := [], closingTabs := s.disp.tabs }
    locator := { active := LocRec.free, closing := s.locator.active } }

/-- PANEL_EJECT (R49). -/
def doPanelEject (s : State) : Act :=
  match s.tracker.active with
  | none => answered .badState s
  | some p =>
    if p.state = .locating ∨ p.state = .cutting then answered .badState s
    else if s.tracker.closing.isSome then answered .busy s
    else if s.inTransit .active then accepted (startClosing s)
    else accepted (closePanel .active s)

/-- The announced panel with an id withdrawn (R41, R51). -/
def withdrawAnnounced (id : Nat) (s : State) : State :=
  { s with tracker := { s.tracker with announce := s.tracker.announce.filter fun a => a.id != id } }

/-- PANEL_ABORT (R51). -/
def doPanelAbort (id : Nat) (s : State) : Act :=
  if s.tracker.announce.any (fun a => a.id == id) then accepted (withdrawAnnounced id s)
  else
    match s.panelRef id with
    | none => answered .notFound s
    | some .closing => answered .badState s
    | some .active =>
      match s.tracker.active with
      | none => answered .notFound s
      | some p =>
        if p.state = .locating ∨ p.state = .cutting then
          accepted (if p.abortable then settle (abortActive .aborted .aborted s) else s)
        else answered .badState s

end Sys2Proof.Machine
end

