-- ==== Sys2Proof/Machine/Cell.lean ====
section
/-! DEFINITION. Handling the cell's own requests: CELL_HOLD (R157), CELL_RESUME (R158), CELL_RESET (R189); and the part's full
resets (R154). -/

namespace Sys2Proof.Machine

/-! ### Hold and resume -/

/-- CELL_HOLD (R157). -/
def doCellHold (s : State) : Act := accepted (addCause Causes.withRequest s)

/-- A node's latch may be cleared (R158, R173): set, with a status taken since, and the latest reporting READY. -/
def NodeRec.clears (r : NodeRec) : Bool := r.latch.isSome && r.fresh && r.faultReported == some false

/-- A node record with its latch cleared (R173). -/
def NodeRec.cleared (r : NodeRec) : NodeRec := { r with latch := none, fresh := false, contact := 0 }

/-- The picker's fault ends (R121): IDLE, and selection is tried. -/
def pickerBack (s : State) : State := askSelect (s.modPicker fun p => { p with state := .idle, reason := none })

/-- The elevator's fault ends (R120): IDLE, in service, and selection is tried. -/
def elevatorBack (s : State) : State := askSelect (s.modElevator fun e => { e with state := .idle, reason := none })

/-- The owning block carries out the end of its node's fault (R74, R120, R121). -/
def nodeBack (n : Node) (s : State) : State :=
  match n with
  | .headA => headBack .a s
  | .headB => headBack .b s
  | .picker => pickerBack s
  | .elevator => elevatorBack s
  | .vision => s

/-- Step 1 of R158 for one node. -/
def clearLatch (s : State) (n : Node) : State :=
  if (s.node n).clears then nodeBack n (s.setNode n (s.node n).cleared) else s

/-- The order of step 1 of R158. -/
def State.resumeOrder (s : State) : List Node := [s.lead.node, s.follow.node, .picker, .elevator, .vision]

/-- Step 2 of R158: the causes whose conditions still hold. -/
def State.remainingCauses (s : State) : Causes :=
  { request := false, stop := s.lines.causes.stop && s.lines.stopIn.cond,
    silence := s.lines.causes.silence && s.ring.silentMark }

/-- The cell enters RUN (R156): the waiting LOCATE, then the TOOLs, the lead head's first; the handover unit's orders, selection
and the arbiter follow as the event closes. -/
def enterRun (s : State) : State := askSelect (writeTool s.follow (writeTool s.lead (issueLocate s)))

/-- CELL_RESUME (R158). -/
def doCellResume (s : State) : Act :=
  let held := !s.running
  let s := s.resumeOrder.foldl clearLatch s
  let s := { s with lines := { s.lines with causes := s.remainingCauses } }
  if s.running then accepted (settle (if held then enterRun s else s))
  else (settle s, some (.busy, [s.lines.causes.byte]))

/-! ### CELL_RESET -/

/-- A CUTTING head is sent STOP with cause RESET; the ordered tab of a CUTTING or STOPPING head is cleared, and its queue
emptied (R97). -/
def resetHead (h : Head) (s : State) : State :=
  (stopHead h .reset s).modHead h fun r => { r with tab := none, queue := [] }

/-- The cut dispatcher's part (R97). -/
def resetDispatcher (s : State) : State :=
  let s := resetHead s.follow (resetHead s.lead s)
  { s with disp := { s.disp with tabs := [], closingTabs := [], unassigned := [] } }

/-- A lane's RESERVED slots become SUSPECT, and its FULL condition is tested (R148). -/
def Lane.resetReserved (l : Lane) : Lane :=
  if l.has .reserved then
    ({ l with slots := l.slots.map fun t => if t = .reserved then .suspect else t
              suspect := l.suspect + l.slots.count .reserved } : Lane).testFull
  else l

/-- The handover unit's part (R148). That a withdrawal RETRACT which waits for RUN is dropped is the model's choice
(notes/assumptions/64.md). -/
def resetHandover (s : State) : State :=
  let s := writeOrder .elevator .none (writeOrder .picker .none s)
  let s := s.modPicker fun p =>
    { p with state := if p.state = .serving then .idle else p.state, order := none, timer := none, retractDue := false }
  let s := s.modElevator fun e =>
    { e with state := if e.state = .indexing then .idle else e.state, order := none, timer := none }
  { s with hand := { s.hand with
      lanes := s.hand.lanes.map Lane.resetReserved, binReserved := 0, service := none } }

/-- The locator's part (R29): an outstanding LOCATE is withdrawn, the records freed. -/
def resetLocator (s : State) : State :=
  let s := if s.loc.state = .measuring then writeOrder .vision .none s else s
  { s with locator := ⟨LocRec.free, LocRec.free⟩ }

/-- The panel tracker's part (R69). -/
def resetTracker (s : State) : State :=
  { s with tracker := { s.tracker with announce := [], active := none, closing := none, half0 := [], half1 := [], pickQueue := [] } }

/-- One slot's part (R16): a validation ends, the slot is LOADING and its commit is answered BAD_STATE. -/
def resetSlot (s : State) (i : Nat) : State :=
  match s.slotRec i with
  | some r =>
    match r.validation with
    | some v =>
      if r.mode = .validating then
        replyReserved { dest := v.src, tag := v.tag, kind := 2, code := .badState, data := [] }
          (s.modSlot i fun r => { r with mode := .loading, validation := none })
      else s
    | none => s
  | none => s

/-- The recipe store's part (R16, R22). -/
def resetRecipes (s : State) : State := (List.range 8).foldl resetSlot s

/-- Every pending notice cleared (R189, R190). -/
def clearNotices (s : State) : State :=
  { s with notices := { s.notices with recs := s.notices.recs.map NoticeRec.clear } }

/-- CELL_RESET (R189). The dispatcher acts before REQUEST is added, so that a stopped cut has cause RESET
(notes/assumptions/12.md). -/
def doCellReset (s : State) : Act :=
  let s := resetRecipes (resetTracker (resetLocator (resetHandover (resetDispatcher s))))
  accepted (clearMarks (clearNotices (addCause Causes.withRequest s)))

/-! ### Power-on and RESET_IN (R154) -/

/-- A line at its reset state, its pin as it stands (R150). -/
def Line.resetTo (cond : Bool) (l : Line) : Line := { raw := l.raw, cond := cond, timer := none }

/-- A line as the part leaves reset: conditioned from then on against the raw level its pin shows (R150). -/
def Line.release (deb : Nat) (l : Line) : Line := { l with timer := if l.raw = l.cond then none else some deb }

/-- The line conditioner at its reset values, the pins as they stand (R150, R155). R154 gives the strap address until the next
RESET_IN and reads it again at the release; that the part holds the old address in between is the model's choice
(notes/assumptions/28.md). -/
def Lines.held (l : Lines) : Lines :=
  { Lines.reset with
    stopIn := l.stopIn.resetTo true, clamp := l.clamp.resetTo false, extract := l.extract.resetTo false
    lanes := l.lanes.map fun k => { line := k.line.resetTo false, stuckTimer := none, stuck := false }
    strap := l.strap, inReset := true }

/-- The line conditioner as the part leaves reset with a strap address read (R150, R154). -/
def Lines.started (deb strap : Nat) (l : Lines) : Lines :=
  let l := l.held
  { l with
    stopIn := l.stopIn.release deb, clamp := l.clamp.release deb, extract := l.extract.release deb
    lanes := l.lanes.map fun k => { k with line := k.line.release deb }
    strap := strap, inReset := false }

/-- A port held DOWN (R162). Its sync count is 0, which is the model's choice (notes/assumptions/52.md), as is its error run
(notes/assumptions/7.md). -/
def PortRec.held : PortRec := { state := .down, rate := none, timer := none, sync := 0, errRun := 0 }

/-- Power-on, and the release of RESET_IN (R154): every block at its reset values, the straps read, both ports training. The
commands that wait, the pins and the model's counter of free values stay. -/
def startPart (straps : Nat) (s : State) : State :=
  { State.reset with
    pending := s.pending, lines := s.lines.started (defaultParams.getD Param.debounce.num 0) straps, free := s.free }

/-- RESET_IN held for 1 ms (R154): every block at its reset values, the ports DOWN. -/
def holdPart (s : State) : State :=
  { State.reset with
    pending := s.pending, lines := s.lines.held, free := s.free, notices := NoticeUnit.reset
    ring := { Ring.reset with portP := PortRec.held, portN := PortRec.held } }

end Sys2Proof.Machine
end

