-- ==== Sys2Proof/Machine/Magazine.lean ====
section
/-! DEFINITION. Handling the requests on the magazine (R141, R142), the bin (R144), the tool rack (R108) and the bits (R109), on
parameters (R182 to R185), notices (R193) and identity (R188). -/

namespace Sys2Proof.Machine

/-! ### Lanes and the bin -/

/-- The slots of a declared lane (R141). -/
def declaredSlots (n : Nat) (blocked : List Nat) : List SlotState :=
  (List.range n).map fun i => if blocked.contains i then .blocked else .empty

/-- The sensor of a lane is stuck and not yet released (R141, R153). -/
def State.laneStuck (s : State) (k : Nat) : Bool :=
  match s.lines.lanes[k]? with
  | some l => l.stuck
  | none => false

/-- The debounced sensor of a lane is active (R142). -/
def State.laneActive (s : State) (k : Nat) : Bool :=
  match s.lines.lanes[k]? with
  | some l => l.line.cond
  | none => false

/-- A lane as LANE_SET rebuilds it (R141). -/
def declaredLane (n : Nat) (variants : BitVec 16) (fill : FillOrder) (blocked : List Nat) (stuck : Bool) : Lane :=
  let slots := declaredSlots n blocked
  { state := if stuck then .jammed else if slots.all (· == .blocked) then .full else .active
    slots := slots, variants := variants, fill := fill, filled := 0, suspect := 0 }

/-- The fill order a code names (R195). -/
def readFill : Nat → Option FillOrder
  | 0 => some .bottomUp
  | 1 => some .topDown
  | _ => none

/-- LANE_SET (R141). -/
def doLaneSet (lane slots : Nat) (variants : BitVec 16) (fill : Nat) (blocked : List Nat) (s : State) : Act :=
  match s.lane lane, readFill fill with
  | some l, some f =>
    if slots = 0 ∨ 80 < slots ∨ blocked.all (fun i => decide (i < slots)) = false ∨ distinct blocked = false then
      answered .range s
    else if l.has .reserved then answered .busy s
    else accepted (trySelect (s.modLane lane fun _ => declaredLane slots variants f blocked (s.laneStuck lane)))
  | _, _ => answered .range s

/-- LANE_RELEASE (R142). -/
def doLaneRelease (lane : Nat) (s : State) : Act :=
  match s.lane lane with
  | none => answered .range s
  | some l =>
    if l.has .reserved then answered .busy s
    else accepted (s.modLane lane fun _ => Lane.absent)

/-- LANE_CLEAR_JAM (R142): a waiting PLACE is tried, then selection. -/
def doLaneClearJam (lane : Nat) (s : State) : Act :=
  match s.lane lane with
  | none => answered .range s
  | some l =>
    if l.state ≠ .jammed then answered .badState s
    else if s.laneActive lane then answered .busy s
    else accepted (trySelect (writePlace (s.modLane lane fun l => ({ l with state := .active } : Lane).testFull)))

/-- BIN_EMPTIED (R144). -/
def doBinEmptied (s : State) : Act := accepted (trySelect { s with hand := { s.hand with binFilled := 0 } })

/-! ### The rack and the bits -/

/-- The state of RACK_SET a code names: EMPTY 0, SPARE 1 (R108, 10.6). -/
def readRackState : Nat → Option RackMode
  | 0 => some .empty
  | 1 => some .spare
  | _ => none

/-- A position as RACK_SET writes it (R108). -/
def rackAs (mode : RackMode) (cls wear : Nat) : RackPos :=
  match mode with
  | .spare => { RackPos.reset with mode := .spare, cls := cls, wear := min 1048575 wear }
  | _ => RackPos.reset

/-- RACK_SET (R108). A reply CLAMPED carries no data, which is the model's choice (notes/assumptions/54.md). -/
def doRackSet (position state cls wear : Nat) (s : State) : Act :=
  match s.rackAt position, readRackState state with
  | some p, some mode =>
    if 3 < cls then answered .range s
    else if p.mode = .mounted ∨ p.engaged ≠ none then answered .busy s
    else
      let q := rackAs mode cls wear
      let s := s.modRack position fun _ => q
      let s := if mode = .spare ∧ q.wear < s.param .bitLife then settle (serveList s) else s
      (s, some (if mode = .spare ∧ 1048575 < wear then .clamped else .ok, []))
  | _, _ => answered .range s

/-- The head a code names. -/
def readHead : Nat → Option Head
  | 0 => some .a
  | 1 => some .b
  | _ => none

/-- TOOL_CHANGE (R109). -/
def doToolChange (head : Nat) (s : State) : Act :=
  match readHead head with
  | none => answered .range s
  | some h =>
    match (s.head h).state with
    | .idle => accepted (settle (beginChange h (s.setDue h true)))
    | .cutting => accepted (s.setDue h true)
    | .stopping => accepted (s.setDue h true)
    | .parking => accepted (s.setDue h true)
    | .changing => accepted s
    | .noTool => accepted s
    | .offline => answered .badState s
    | .fault => answered .badState s

/-! ### Parameters -/

/-- A value brought into a row's range (R182, step 3). -/
def ParamRow.clamp (r : ParamRow) (v : Nat) : Nat := max r.lo (min r.hi v)

/-- The cross-relation clamps (R183), on a value already in its range. -/
def State.crossClamp (s : State) (p : Param) (v : Nat) : Nat :=
  match p with
  | .loadLow => min v (s.param .loadHigh - 1)
  | .loadHigh => max v (s.param .loadLow + 1)
  | .rejectCapacity => max v (s.hand.binFilled + s.hand.binReserved)
  | _ => v

/-- A panel is active or closing (R182). -/
def State.panelLives (s : State) : Bool := s.tracker.active.isSome || s.tracker.closing.isSome

/-- A parameter's value stored (R182, step 5). -/
def State.setParam (s : State) (n v : Nat) : State :=
  { s with req := { s.req with params := s.req.params.set n v } }

/-- The data of a reply to PARAM_SET or PARAM_GET (10.6). -/
def paramData (n v : Nat) : List Byte := byteOf n :: longBytes v

/-- PARAM_SET (R182 to R184). -/
def doParamSet (param value : Nat) (s : State) : Act :=
  match paramTable[param]? with
  | none => answered .range s
  | some r =>
    if r.idleOnly ∧ s.panelLives then answered .busy s
    else if r.name = .leadHead ∧ 1 < value then answered .range s
    else
      let v := s.crossClamp r.name (r.clamp value)
      let old := s.param r.name
      let s := s.setParam param v
      let s := if r.name = .bitLife ∧ old < v then settle (serveList s) else s
      (s, some (if v = value then .ok else .clamped, paramData param v))

/-- PARAM_GET (R185). -/
def doParamGet (param : Nat) (s : State) : Act :=
  match s.req.params[param]? with
  | some v => (s, some (.ok, paramData param v))
  | none => answered .range s

/-! ### Notices and identity -/

/-- NOTICE_MASK (R193). -/
def doNoticeMask (level : Nat) (s : State) : Act :=
  if 4 < level then answered .range s else accepted { s with notices := { s.notices with mask := level } }

/-- NOTICE_LEVEL (R193). -/
def doNoticeLevel (cls level : Nat) (s : State) : Act :=
  if 19 < cls ∨ 3 < level then answered .range s
  else
    accepted { s with notices := { s.notices with
      recs := s.notices.recs.modify cls fun r => { r with level := level } } }

/-- IDENTIFY (R188): vendor code 2,417, part code 4,120, revision 3, strap address. -/
def doIdentify (s : State) : Act :=
  (s, some (.ok, wordBytes 2417 ++ wordBytes 4120 ++ [3, byteOf s.lines.strap]))

end Sys2Proof.Machine
end

