-- ==== Sys2Proof/Machine/Tables.lean ====
section
/-! DEFINITION. TABLE_READ (R186, R187): the entries of each table in the order in which the rule that defines them lists their
fields (R23, R40, R67, R98, R117, R149), each in its form (10.1, 10.6). -/

namespace Sys2Proof.Machine

/-! ### Entries -/

/-- An entry: a length byte, then its fields (10.6). -/
def entry (l : List Byte) : List Byte := byteOf l.length :: l

/-- The fiducial set as a set of one byte. -/
def FidSet.byte (f : FidSet) : Byte := byteOf (setByte [f.f0, f.f1, f.f2])

/-- The summary of a recipe slot (R23). An absent fiducial set is carried as the set without members, 0, which is the model's
choice (notes/assumptions/42.md). -/
def slotSummary (s : State) (i : Nat) (r : RecipeSlot) : List Byte :=
  [byteOf r.mode.num, flagByte (s.inUse i)] ++ wordOpt r.declared ++ wordBytes r.filled ++
  [byteOpt r.boards] ++ wordOpt r.tabs ++
  [match r.fids with | some f => f.byte | none => 0,
   byteOpt (r.result.map fun v => v.code.num)] ++
  wordOpt (r.result.bind ValResult.detail)

/-- A recipe items entry: a filled offset's ring encoding; nothing for an unfilled one, so that its length byte is 0 (R198). -/
def itemEntry : Option Item → List Byte
  | some i => encodeItem i
  | none => []

/-- The summary of a panel (R67, R40). -/
def panelSummary (p : Panel) (r : LocRec) : List Byte :=
  wordBytes p.id ++
  [byteOf p.slot, byteOf p.state.num, byteOpt (p.stop.map StopReason.num), byteOpt (p.abort.map AbortMark.num),
    byteOf p.boardCount] ++ wordBytes p.tabCount ++
  [byteOf p.half.num, byteOf p.tally.stacked, byteOf p.tally.binned, byteOf p.tally.retained, byteOf p.tally.lost,
    byteOf r.state.num, byteOpt (r.outcome.map LocOutcome.num), byteOpt r.detail] ++
  ptOpt r.m0 ++ ptOpt r.m1 ++ ptOpt r.m2 ++ coordOpt r.c ++ coordOpt r.s ++ coordOpt r.angle

/-- A board entry (R55). -/
def boardEntry (b : Board) : List Byte :=
  [byteOf b.index, byteOf b.variant, flagByte b.bad, byteOf b.state.num, byteOpt b.state.reasonNum, byteOf b.openTabs] ++
  wordBytes b.releaseTab ++ ptBytes b.nominal ++ ptOpt b.corrected ++ [flagByte b.unreachable, byteOf b.attempts] ++
  destBytes b.dest

/-- One head's part of the dispatcher summary (R98). -/
def headSummary (r : HeadRec) : List Byte :=
  [byteOf r.state.num, byteOpt (r.reason.map FaultReason.num)] ++ coordOpt r.x ++ wordOpt r.tab ++
  [byteOpt (r.cause.map StopCause.num)]

/-- The dispatcher summary (R98). Its pairing mode is carried as in CELL_STATUS, SINGLE 0 and PAIRED 1, which is the model's
reading (notes/assumptions/13.md). -/
def dispatcherSummary (s : State) : List Byte :=
  headSummary (s.head .a) ++ headSummary (s.head .b) ++ [flagByte s.disp.paired] ++
  wordBytes (s.head .a).queue.length ++ wordBytes (s.head .b).queue.length ++ wordBytes s.disp.unassigned.length

/-- A tab entry (R70). The absent forms of its peak load and of the feed class of its last completed cut are the model's reading
(notes/assumptions/61.md). -/
def tabEntry (t : Tab) : List Byte :=
  wordBytes t.index ++ [byteOf (tabKindNum t.kind), byteOf t.owner, byteOpt t.linked, flagByte t.release] ++
  ptBytes t.nomStart ++ ptBytes t.nomEnd ++ ptOpt t.corStart ++ ptOpt t.corEnd ++ [flagByte t.unreachable] ++
  wordBytes t.len ++
  [byteOf t.feed, byteOf t.attempts, byteOf t.state.num, byteOpt (t.skipReason.map SkipReason.num), flagByte t.standing,
    byteOpt (t.place.map Place.num), byteOpt (t.cutHead.map headNum), flagByte t.settlement.isSome,
    byteOpt (t.lastCut.map fun c => headNum c.1), byteOpt (t.lastCut.map Prod.snd)] ++
  wordOpt t.peak

/-- The service's part of the handover summary (R122), with the remaining time of its window. A FREE service shows its
contingency and torn marks as 0, which is the model's choice (notes/assumptions/53.md). -/
def serviceBytes (v : Option Service) (left : Option Nat) : List Byte :=
  match v with
  | some v =>
    1 :: (wordBytes v.panel ++ [byteOf v.board] ++ destBytes (some v.dest) ++
      [byteOf v.index.num, byteOf v.early.num, flagByte v.contingency, flagByte v.torn,
        match v.window with
        | some .opened => 0
        | some (.closing _) => 1
        | none => absentByte] ++ wordOpt left)
  | none =>
    [0, 0, 0, absentByte] ++ destBytes none ++ [absentByte, absentByte, 0, 0, absentByte] ++ wordOpt none

/-- The handover summary (R149). The absent form of the sequence numbers of a picker order and an INDEX that are not outstanding
is the model's reading (notes/assumptions/61.md). -/
def handoverSummary (s : State) (left : Option Nat) : List Byte :=
  let p := s.hand.picker
  let e := s.hand.elevator
  [byteOf p.state.num, byteOpt (p.reason.map FaultReason.num), byteOpt (p.order.map fun o => o.1.num),
    byteOpt (p.order.map Prod.snd), byteOf e.state.num, byteOpt (e.reason.map FaultReason.num),
    byteOpt (e.order.map IndexOut.lane), byteOpt (e.order.map IndexOut.slot), byteOpt (e.order.map IndexOut.seq)] ++
  serviceBytes s.hand.service left ++ [byteOf s.hand.binFilled, byteOf s.hand.binReserved]

/-- A lane entry (R140, R149). That the entry of an ABSENT lane shows both counts as 0, and not in the absent form of R195, is
the model's choice, as are the fill order and the variants shown there (notes/assumptions/33.md). -/
def laneEntry (l : Lane) : List Byte :=
  [byteOf l.state.num, byteOf l.slots.length] ++ wordBytes l.variants.toNat ++
  [byteOf l.fill.num, byteOf l.filled, byteOf l.suspect] ++ l.slots.map fun t => byteOf t.num

/-- One head's part of the spindle summary (R117). The absent form of its last filtered value and of its peak is the model's
reading (notes/assumptions/61.md). -/
def headSpindle (s : State) (h : Head) : List Byte :=
  let f := s.filter h
  [byteOf f.shift] ++ wordOpt f.last ++ [byteOf f.low, byteOf f.high] ++ wordOpt f.peak ++
  [flagByte (s.due h), byteOpt ((s.change h).bind Change.outgoing), byteOpt ((s.change h).bind Change.fetch),
    byteOpt ((s.change h).map fun c => c.state.num)]

/-- The spindle summary (R117). -/
def spindleSummary (s : State) : List Byte :=
  headSpindle s .a ++ headSpindle s .b ++
  [byteOpt (s.spindle.waiting[0]?.map headNum), byteOpt (s.spindle.waiting[1]?.map headNum)]

/-- A rack entry (R107, R117). The broken mark of a position that is not MOUNTED reads 0, which is the model's choice
(notes/assumptions/45.md). -/
def rackEntry (p : RackPos) : List Byte :=
  [byteOf p.mode.num, byteOpt (p.head.map headNum), flagByte p.brokenMark, byteOpt (p.engaged.map headNum), byteOf p.cls] ++
  longBytes p.wear ++ wordBytes p.cuts

/-! ### Tables -/

/-- The tabs of a panel. -/
def State.tabsOf (s : State) : PanelRef → List Tab
  | .active => s.disp.tabs
  | .closing => s.disp.closingTabs

/-- A panel's locator record. -/
def State.locOf (s : State) : PanelRef → LocRec
  | .active => s.locator.active
  | .closing => s.locator.closing

/-- The panel a selector names: ACTIVE 0, CLOSING 1 (10.6). -/
def readPanelRef : Nat → Option PanelRef
  | 0 => some .active
  | 1 => some .closing
  | _ => none

/-- A table as TABLE_READ finds it: its length and its entries, RANGE for a table or selector outside its values, NOT_FOUND
for a panel that does not exist (R186). The length of a panel's table counts entries the expander has not written yet, which
read as entries of no field (notes/assumptions/9.md). -/
def tableOf (table selector : Nat) (left : Option Nat) (s : State) : Code ⊕ List (List Byte) :=
  match table with
  | 0 =>
    match s.slotRec selector with
    | some r => .inr (entry (slotSummary s selector r) :: r.items.map fun i => entry (itemEntry i))
    | none => .inl .range
  | 1 =>
    match readPanelRef selector with
    | none => .inl .range
    | some ref =>
      match s.panel ref with
      | some p =>
        .inr (entry (panelSummary p (s.locOf ref)) ::
          (List.range p.boardCount).map fun i => entry (((s.boards ref)[i]?.map boardEntry).getD []))
      | none => .inl .notFound
  | 2 =>
    match readPanelRef selector with
    | none => .inl .range
    | some ref =>
      match s.panel ref with
      | some p =>
        .inr (entry (dispatcherSummary s) ::
          (List.range p.tabCount).map fun i => entry (((s.tabsOf ref)[i]?.map tabEntry).getD []))
      | none => .inl .notFound
  | 3 => .inr ((s.head .a).queue.map fun i => entry (wordBytes i))
  | 4 => .inr ((s.head .b).queue.map fun i => entry (wordBytes i))
  | 5 => .inr (s.disp.unassigned.map fun i => entry (wordBytes i))
  | 6 => .inr (s.tracker.pickQueue.map fun i => entry [byteOf i])
  | 7 => .inr (entry (handoverSummary s left) :: s.hand.lanes.map fun l => entry (laneEntry l))
  | 8 => .inr (entry (spindleSummary s) :: s.spindle.rack.map fun p => entry (rackEntry p))
  | _ => .inl .range

/-- The leading entries that fit together in a space (R187). -/
def fitEntries : Nat → List (List Byte) → List (List Byte)
  | _, [] => []
  | room, e :: rest => if e.length ≤ room then e :: fitEntries (room - e.length) rest else []

/-- The entries a read returns (R187): at most 16, from `start` on, as many as fit in 230 bytes. -/
def readEntries (start count : Nat) (t : List (List Byte)) : List (List Byte) :=
  fitEntries 230 ((t.drop start).take (min count 16))

/-- The data of a TABLE_READ reply (10.6). -/
def readData (table selector start len : Nat) (es : List (List Byte)) : List Byte :=
  [byteOf table, byteOf selector] ++ wordBytes start ++ wordBytes len ++ [byteOf es.length] ++ es.flatten

/-- The remaining time of the service's confirm window, as a read finds it: for a CLOSING window a free value of at most the
time it was given (notes/assumptions/16.md); absent otherwise. -/
def State.windowLeft (s : State) : Option Nat :=
  match s.hand.service with
  | some v =>
    match v.window with
    | some (.closing ms) => some (min ms (Config.windowRemaining s.free))
    | _ => none
  | none => none

/-- The state after a read: the free value's counter advances when the read drew one. -/
def State.drawn (s : State) : State := if s.windowLeft.isSome then { s with free := s.free + 1 } else s

/-- TABLE_READ (R186, R187). -/
def doTableRead (table selector start count : Nat) (s : State) : Act :=
  match tableOf table selector s.windowLeft s with
  | .inl .range => answered .range s
  | .inl c => if 512 < start ∨ 255 < count then answered .range s else answered c s
  | .inr t =>
    if 512 < start ∨ 255 < count then answered .range s
    else
      (if table = 7 then s.drawn else s,
        some (if 16 < count then .clamped else .ok, readData table selector start t.length (readEntries start count t)))

end Sys2Proof.Machine
end

