-- ==== Sys2Proof/Machine/Requests.lean ====
section
/-! DEFINITION. The request unit (9.1): handling (R178), arrival (R177), and the meanings of the commands that bring one
request each, with VALIDATION_END and EXPANSION_COMPLETE. How a request command meets the part's own request
queue is in notes/assumptions/1.md. -/

namespace Sys2Proof.Machine

/-- What handling a request does, and its answer (9.2). A body shorter than its kind's operands is answered RANGE (R179). -/
def act (r : Request) (s : State) : Act :=
  match r.body with
  | .recipeLoad slot offset count items => doRecipeLoad slot offset count items s
  | .recipeCommit slot count check => doRecipeCommit r.src r.tag slot count check s
  | .recipeDrop slot => doRecipeDrop slot s
  | .panelAnnounce id slot bad => doPanelAnnounce id slot bad s
  | .panelStart => doPanelStart s
  | .panelEject => doPanelEject s
  | .panelAbort id => doPanelAbort id s
  | .cellHold => doCellHold s
  | .cellResume => doCellResume s
  | .cellReset => doCellReset s
  | .laneSet lane slots variants fill blocked => doLaneSet lane slots variants fill blocked s
  | .laneRelease lane => doLaneRelease lane s
  | .laneClearJam lane => doLaneClearJam lane s
  | .binEmptied => doBinEmptied s
  | .rackSet position state cls wear => doRackSet position state cls wear s
  | .toolChange head => doToolChange head s
  | .paramSet param value => doParamSet param value s
  | .paramGet param => doParamGet param s
  | .tableRead table selector start count => doTableRead table selector start count s
  | .noticeMask level => doNoticeMask level s
  | .noticeLevel cls level => doNoticeLevel cls level s
  | .identify => doIdentify s
  | .malformed _ => answered .range s

/-- The reply to a request, with a code and data (R180). -/
def Request.reply (r : Request) (c : Code) (data : List Byte) : Reply :=
  { dest := r.src, tag := r.tag, kind := r.body.kind, code := c, data := data }

/-- An answer's reply joins the reply queue; an accepted commit's waits (R178). -/
def replied (r : Request) (a : Act) : State :=
  match a.2 with
  | some (c, data) => pushReply (r.reply c data) a.1
  | none => a.1

/-- A request is handled (R178). -/
def handle (r : Request) (s : State) : State := replied r (act r s)

/-- The state with the request queue replaced. -/
def State.setRequests (s : State) (l : List Request) : State := { s with req := { s.req with requests := l } }

/-- A request arrives (R177): queued, answered QUEUE_FULL, or dropped. -/
def arrive (r : Request) (s : State) : State :=
  if s.req.requests.length < 4 then s.setRequests (s.req.requests ++ [r])
  else if s.replyRoom then pushReply (r.reply .queueFull []) s
  else { s with req := { s.req with dropped := min 255 (s.req.dropped + 1) } }

/-- The part is passive: its strap address is 0 or 63 (R165). -/
def State.passive (s : State) : Bool := s.lines.strap == 0 || s.lines.strap == 63

/-- The part takes requests: it is out of RESET_IN and not passive (R154, R165). -/
def State.serving (s : State) : Bool := !s.lines.inReset && !s.passive

/-- The request at the front of the part's own queue is handled when the reply queue has room (R178). -/
def handleFront (s : State) : State :=
  match s.req.requests with
  | [] => s
  | q :: rest => if s.replyRoom then handle q (s.setRequests rest) else s

/-- A request is handed to the request unit: it arrives (R177), whatever requests wait, an equal one among them (R179), and then
the front of the queue is handled when the reply queue has room (R178), which is this request where the queue was empty. That
one step holds the arrival and one handling is the model's choice (notes/assumptions/1.md). -/
def submit (r : Request) (s : State) : State := if s.serving then handleFront (arrive r s) else s

/-- The active panel's expansion is in flight (R43). -/
def State.expanding (s : State) : Bool :=
  match s.tracker.active with
  | some p => p.expanding
  | none => false

/-! ### The meanings -/

/-- The outcome type of every meaning. -/
abbrev Meaning := Host.Outcome State Fault Refusal

/-- RECIPE_LOAD (R8, R9). -/
def execRecipeLoad (src tag slot offset count : Nat) (items : List LoadItem) (s : State) : Meaning :=
  .next (submit ⟨src, tag, .recipeLoad slot offset count items⟩ s)

/-- RECIPE_COMMIT (R11). -/
def execRecipeCommit (src tag slot count check : Nat) (s : State) : Meaning :=
  .next (submit ⟨src, tag, .recipeCommit slot count check⟩ s)

/-- RECIPE_DROP (R10). -/
def execRecipeDrop (src tag slot : Nat) (s : State) : Meaning := .next (submit ⟨src, tag, .recipeDrop slot⟩ s)

/-- PANEL_ANNOUNCE (R42). -/
def execPanelAnnounce (src tag id slot : Nat) (bad : List Nat) (s : State) : Meaning :=
  .next (submit ⟨src, tag, .panelAnnounce id slot bad⟩ s)

/-- PANEL_START (R44). -/
def execPanelStart (src tag : Nat) (s : State) : Meaning := .next (submit ⟨src, tag, .panelStart⟩ s)

/-- PANEL_EJECT (R49). -/
def execPanelEject (src tag : Nat) (s : State) : Meaning := .next (submit ⟨src, tag, .panelEject⟩ s)

/-- PANEL_ABORT (R51). -/
def execPanelAbort (src tag id : Nat) (s : State) : Meaning := .next (submit ⟨src, tag, .panelAbort id⟩ s)

/-- CELL_HOLD (R157). -/
def execCellHold (src tag : Nat) (s : State) : Meaning := .next (submit ⟨src, tag, .cellHold⟩ s)

/-- CELL_RESUME (R158). -/
def execCellResume (src tag : Nat) (s : State) : Meaning := .next (submit ⟨src, tag, .cellResume⟩ s)

/-- CELL_RESET (R189). -/
def execCellReset (src tag : Nat) (s : State) : Meaning := .next (submit ⟨src, tag, .cellReset⟩ s)

/-- LANE_SET (R141). -/
def execLaneSet (src tag lane slots : Nat) (variants : BitVec 16) (fill : Nat) (blocked : List Nat) (s : State) : Meaning :=
  .next (submit ⟨src, tag, .laneSet lane slots variants fill blocked⟩ s)

/-- LANE_RELEASE (R142). -/
def execLaneRelease (src tag lane : Nat) (s : State) : Meaning := .next (submit ⟨src, tag, .laneRelease lane⟩ s)

/-- LANE_CLEAR_JAM (R142). -/
def execLaneClearJam (src tag lane : Nat) (s : State) : Meaning := .next (submit ⟨src, tag, .laneClearJam lane⟩ s)

/-- BIN_EMPTIED (R144). -/
def execBinEmptied (src tag : Nat) (s : State) : Meaning := .next (submit ⟨src, tag, .binEmptied⟩ s)

/-- RACK_SET (R108). -/
def execRackSet (src tag position state cls wear : Nat) (s : State) : Meaning :=
  .next (submit ⟨src, tag, .rackSet position state cls wear⟩ s)

/-- TOOL_CHANGE (R109). -/
def execToolChange (src tag head : Nat) (s : State) : Meaning := .next (submit ⟨src, tag, .toolChange head⟩ s)

/-- PARAM_SET (R182). -/
def execParamSet (src tag param value : Nat) (s : State) : Meaning := .next (submit ⟨src, tag, .paramSet param value⟩ s)

/-- PARAM_GET (R185). -/
def execParamGet (src tag param : Nat) (s : State) : Meaning := .next (submit ⟨src, tag, .paramGet param⟩ s)

/-- TABLE_READ (R186). -/
def execTableRead (src tag table selector start count : Nat) (s : State) : Meaning :=
  .next (submit ⟨src, tag, .tableRead table selector start count⟩ s)

/-- NOTICE_MASK (R193). -/
def execNoticeMask (src tag level : Nat) (s : State) : Meaning := .next (submit ⟨src, tag, .noticeMask level⟩ s)

/-- NOTICE_LEVEL (R193). -/
def execNoticeLevel (src tag cls level : Nat) (s : State) : Meaning := .next (submit ⟨src, tag, .noticeLevel cls level⟩ s)

/-- IDENTIFY (R188). -/
def execIdentify (src tag : Nat) (s : State) : Meaning := .next (submit ⟨src, tag, .identify⟩ s)

/-- VALIDATION_END (R15). -/
def execValidationEnd (slot : Nat) (s : State) : Meaning := .next (endValidation slot s)

/-- EXPANSION_COMPLETE (R21). -/
def execExpansionComplete (s : State) : Meaning := .next (if s.expanding then settle (expansionDone s) else s)

end Sys2Proof.Machine
end

