-- ==== Sys2Proof/Machine/Nodes.lean ====
section
/-! DEFINITION. What a node's status does (8.5, 8.6): orders taken and completed (R170, R171) as their owners act on them, the
six steps of a status record (R172), early lifts (R131), node faults, and the contact watch (R173). -/

namespace Sys2Proof.Machine

/-! ### Node faults -/

/-- A node enters FAULT with a reason, as its owner acts on it (R74, R121, R120, R28). -/
def nodeFault (n : Node) (why : FaultReason) (s : State) : State :=
  match n with
  | .headA => headFault .a why s
  | .headB => headFault .b why s
  | .picker => pickerFault why s
  | .elevator => elevatorFault why s
  | .vision => visionFault why s

/-! ### Orders taken (R170) -/

/-- A head's order is taken: the head timer or the TOOL_TIMEOUT interval starts (R89, R91, R96, R111). -/
def headTaken (h : Head) (s : State) : State :=
  let st := (s.head h).state
  match (s.node h.node).order with
  | .cut _ _ _ _ _ _ _ =>
    if st = .cutting then s.modHead h fun r => { r with timer := some (s.param .cutTimeout) } else s
  | .stop =>
    if st = .stopping ∧ (s.head h).timer = none then
      s.modHead h fun r => { r with timer := some (s.param .cutTimeout) }
    else s
  | .park _ =>
    if st = .parking then s.modHead h fun r => { r with timer := some (s.param .cutTimeout) } else s
  | .tool _ _ _ =>
    match s.change h with
    | some c =>
      if st = .changing ∧ c.state = .out then
        s.setChange h (some { c with state := .taken, timer := some (s.param .toolTimeout) })
      else s
    | none => s
  | _ => s

/-- The timeout parameter of a picker order (R119). -/
def PickerOrder.timeout : PickerOrder → Param
  | .pick => .gripTimeout
  | .retract => .gripTimeout
  | .lift => .liftTimeout
  | .stay => .liftTimeout
  | .place => .placeTimeout

/-- The picker's outstanding order is taken: its timer starts (R119). -/
def pickerTaken (s : State) : State :=
  match s.hand.picker.order with
  | some (k, q) =>
    if q = (s.node .picker).seq then s.modPicker fun p => { p with timer := some (s.param k.timeout) } else s
  | none => s

/-- The outstanding INDEX is taken: INDEX_TIMEOUT starts (R120, R135). -/
def elevatorTaken (s : State) : State :=
  match s.hand.elevator.order with
  | some o =>
    if o.seq = (s.node .elevator).seq then
      s.modElevator fun e => { e with timer := some (s.param .indexTimeout) }
    else s
  | none => s

/-- The LOCATE is taken: LOCATE_TIMEOUT starts (R28). -/
def visionTaken (s : State) : State :=
  if s.loc.state = .measuring then s.modLoc fun r => { r with timer := some (s.param .locateTimeout) } else s

/-- "Order taken" reaches a node's owner. -/
def orderTaken (n : Node) (s : State) : State :=
  match n with
  | .headA => headTaken .a s
  | .headB => headTaken .b s
  | .picker => pickerTaken s
  | .elevator => elevatorTaken s
  | .vision => visionTaken s

/-- The taking of the current order tested (R170). -/
def testTaken (n : Node) (taken : Nat) (s : State) : State :=
  let r := s.node n
  if r.taken = false ∧ taken = r.seq then orderTaken n (s.setNode n { r with taken := true, takeTimer := none }) else s

/-! ### Orders completed (R171) -/

/-- A head's order completes with a result (R90, R92, R95, R96, R112 to R114). `rem` is the remaining length carried with
STOPPED. -/
def headCompleted (h : Head) (o : Order) (res : Result) (rem : Nat) (s : State) : State :=
  match o, (s.head h).state with
  | .cut _ _ _ _ _ _ _, .cutting => if res = .ok then cutDone h s else headFault h .cutFault s
  | .stop, .stopping =>
    match res with
    | .stopped => cutStopped h rem s
    | .alreadyDone => cutDone h s
    | _ => headFault h .cutFault s
  | .park _, .parking =>
    if res = .ok then headIdle h (s.modHead h fun r => { r with timer := none }) else headFault h .parkFault s
  | .tool _ _ _, .changing =>
    match s.change h with
    | some c =>
      if c.state = .awaitingRun then s
      else
        match res with
        | .ok => toolOk h c s
        | .noBit => toolNoBit h c s
        | _ => headFault h .tool s
    | none => s
  | _, _ => s

/-- The picker's outstanding order completes with a result (R121, R126 to R138). -/
def pickerCompleted (res : Result) (s : State) : State :=
  match s.hand.picker.order with
  | some (k, q) =>
    if q = (s.node .picker).seq then
      match k, res with
      | .pick, .gripped => pickGripped s
      | .pick, .missed => pickMissed s
      | .retract, .ok => retractOk s
      | .lift, .ok => liftOk s
      | .lift, .dropped => liftDropped s
      | .stay, .held => stayHeld s
      | .stay, .alreadyLifted => stayLifted s
      | .place, .ok => placeOk s
      | .place, .dropped => placeDropped s
      | _, _ => pickerFault .order s
    else s
  | none => s

/-- The outstanding INDEX completes with a result (R135). -/
def elevatorCompleted (res : Result) (s : State) : State :=
  match s.hand.elevator.order with
  | some o =>
    if o.seq = (s.node .elevator).seq then (if res = .ok then indexOk s else elevatorFault .order s) else s
  | none => s

/-- "Order completed" reaches a node's owner; a NONE has no owner to hand its completion to (R197). -/
def orderCompleted (n : Node) (o : Order) (st : Status) (s : State) : State :=
  let res := readResult o st.code
  if o = .none then s
  else
    match n with
    | .headA => headCompleted .a o res st.data s
    | .headB => headCompleted .b o res st.data s
    | .picker => pickerCompleted res s
    | .elevator => elevatorCompleted res s
    | .vision => locateDone res st s

/-- The completion of the current order tested (R171). -/
def testCompleted (n : Node) (st : Status) (s : State) : State :=
  let r := s.node n
  if r.completed = false ∧ st.done = r.seq then
    orderCompleted n r.order st (s.setNode n { r with completed := true })
  else s

/-! ### A head's data (R73, R100, R131) -/

/-- The conditions of an early lift but for the record's own (R131): the head cuts the release tab of the served board, which
is RELEASING, with no early lift made; RUN; no picker order out; a free bin place. -/
def State.earlyLiftOpen (s : State) (h : Head) : Bool :=
  match s.hand.service, (s.head h).tab.bind s.tab with
  | some v, some t =>
    (s.head h).state == .cutting && t.release && v.panel == s.activeId && v.board == t.owner &&
      s.boardState .active v.board == some .releasing && v.early == .none && s.running &&
      s.hand.picker.order == none && s.binRoom
  | _, _ => false

/-- The early lift tested at a record of a head (R131): a contingency place is taken and LIFT written. -/
def tryEarlyLift (h : Head) (rem : Nat) (s : State) : State :=
  match s.hand.service with
  | some v =>
    if 0 < s.param .earlyLead ∧ rem ≤ s.param .earlyLead ∧ s.earlyLiftOpen h then
      let s := (reserveBin s).modService fun v => { v with contingency := true, early := .out }
      writePicker .lift (.lift v.panel v.board) s
    else s
  | none => s

/-- A head's position, remaining length and load sample handed on (R73, R100, R131). The sample and the early lift are for a
record that reports the current CUT taken and not done. -/
def headData (h : Head) (st : Status) (s : State) : State :=
  let s := s.modHead h fun r => { r with x := some st.x }
  let q := (s.node h.node).seq
  if (s.head h).state = .cutting ∧ st.taken = q ∧ st.done ≠ q then
    tryEarlyLift h st.remaining (offerSample h st.remaining st.load s)
  else s

/-- The record's data fields handed to their owners (R172, step 4); the vision node's are read at a completion (R197). -/
def nodeData (n : Node) (st : Status) (s : State) : State :=
  match n with
  | .headA => headData .a st s
  | .headB => headData .b st s
  | .picker => s
  | .elevator => s
  | .vision => s

/-! ### A status record (R172) -/

/-- An owner's node first reports FAULT (R74, R119, R120): FAULT with reason STATUS, from OFFLINE, with no notice
(notes/assumptions/11.md). -/
def firstFault (n : Node) (s : State) : State :=
  let s := setLatch n .status s
  match n with
  | .headA => s.modHead .a fun r => { r with state := .fault, reason := some .status }
  | .headB => s.modHead .b fun r => { r with state := .fault, reason := some .status }
  | .picker => s.modPicker fun p => { p with state := .fault, reason := some .status }
  | .elevator => s.modElevator fun e => { e with state := .fault, reason := some .status }
  | .vision => s

/-- Step 1 of R172: the first status. -/
def firstStatus (n : Node) (faulty : Bool) (s : State) : State :=
  if (s.node n).present then s
  else
    let s := s.setNode n { s.node n with present := true }
    if faulty then firstFault n s else nodeBack n s

/-- Step 2 of R172: the contact count and the fresh mark. -/
def NodeRec.heard (r : NodeRec) : NodeRec := { r with contact := 0, fresh := r.fresh || r.latch.isSome }

/-- Step 6 of R172: the reported condition stored, and FAULT acted on. -/
def storeReported (n : Node) (faulty : Bool) (s : State) : State :=
  let s := s.setNode n { s.node n with faultReported := some faulty }
  if faulty ∧ (s.node n).latch = none then nodeFault n .status s else s

/-- A status record taken for a node, in its six steps (R172). -/
def statusTaken (n : Node) (st : Status) (s : State) : State :=
  let s := firstStatus n st.faulty s
  let s := s.setNode n (s.node n).heard
  let s := testTaken n st.taken s
  let s := nodeData n st s
  let s := testCompleted n st s
  storeReported n st.faulty s

/-! ### The contact watch (R173) -/

/-- A node's latch set with reason CONTACT, the count at 8 (R173). -/
def loseContact (n : Node) (s : State) : State := nodeFault n .contact (s.setNode n { s.node n with contact := 8 })

/-- A good frame without a status record from a PRESENT node counted (R173). -/
def countAbsent (s : State) (n : Node) : State :=
  let r := s.node n
  if r.present then
    if 7 ≤ r.contact ∧ r.latch = none then loseContact n s
    else s.setNode n { r with contact := min 8 (r.contact + 1) }
  else s

end Sys2Proof.Machine
end

