-- ==== Sys2Proof/Machine/Frames.lean ====
section
/-! DEFINITION. Frames (8.2 to 8.4, 10.2) and ports (8.1): the check of a frame (R166, R196), its records taken (R167), the
insertion into its free tail (R168, R192, R199), forwarding (R165), and port training (R163, R164). -/

namespace Sys2Proof.Machine

/-! ### Reading a frame -/

/-- A record of a frame (10.2). -/
structure Rec where
  dest : Nat
  src : Nat
  kind : Nat
  body : List Byte
deriving DecidableEq, Repr

/-- As many records as the count says, ending exactly with the bytes; none otherwise (R166). -/
def readRecords : Nat → List Byte → Option (List Rec)
  | 0, [] => some []
  | 0, _ :: _ => none
  | n + 1, d :: s :: k :: l :: rest =>
    if 240 < l.toNat ∨ rest.length < l.toNat then none
    else
      (readRecords n (rest.drop l.toNat)).map
        ({ dest := d.toNat, src := s.toNat, kind := k.toNat, body := rest.take l.toNat } :: ·)
  | _ + 1, _ => none

/-- The records of a good frame; none for a bad one (R166, R196). -/
def readFrame (bytes : List Byte) : Option (List Rec) :=
  if bytes.length < 6 ∨ 1536 < bytes.length then none
  else
    let body := bytes.take (bytes.length - 2)
    if (checkSeq body).toNat = wordAt bytes (bytes.length - 2) then readRecords (wordAt bytes 2) (body.drop 4) else none

/-- The ring address of a mapped node (R181). -/
def State.address (s : State) (n : Node) : Nat :=
  match n with
  | .headA => s.param .nodeAddrA
  | .headB => s.param .nodeAddrB
  | .picker => s.param .nodeAddrPicker
  | .elevator => s.param .nodeAddrElevator
  | .vision => s.param .nodeAddrVision

/-! ### Records taken (R167) -/

/-- The records of one frame as they are taken: the state, the sources whose status record has been met, and the nodes a
status record was taken for. -/
structure Taking where
  s : State
  seen : List Nat
  heard : List Node
deriving DecidableEq, Repr

/-- A status record taken for one node, when the source is its address and the body is long enough (R167, R197). -/
def takeFor (r : Rec) (k : Taking) (n : Node) : Taking :=
  if k.s.address n = r.src then
    match readStatus n r.body with
    | some st => { k with s := statusTaken n st k.s, heard := n :: k.heard }
    | none => k
  else k

/-- The tag of a request's reply where the body carries none; the free value's counter then advances. -/
def takeRequest (r : Rec) (s : State) : State :=
  let q := readRequest r.src r.kind (Config.missingTag s.free) r.body
  arrive q (if r.body = [] then { s with free := s.free + 1 } else s)

/-- One record of a good frame (R167, R196). The model's choices in it: a status record too short for a node still counts as
the first from its source (notes/assumptions/24.md), and nodes that share an address take a record in the order head A, head B,
picker, elevator, vision (notes/assumptions/50.md). -/
def takeRecord (k : Taking) (r : Rec) : Taking :=
  if 63 < r.dest ∨ 63 < r.src ∨ r.src = k.s.lines.strap then k
  else if 1 ≤ r.kind ∧ r.kind ≤ 22 then
    if r.dest = k.s.lines.strap ∨ r.dest = 63 then { k with s := takeRequest r k.s } else k
  else if r.kind = 64 ∧ r.src ∉ k.seen then
    Node.all.foldl (takeFor r) { k with seen := r.src :: k.seen }
  else k

/-- The contact watch counts a good frame (R173), for head A, head B, the picker, the elevator and the vision node in that
order, which is the model's choice (notes/assumptions/51.md). -/
def contactWatch (heard : List Node) (s : State) : State :=
  (Node.all.filter fun n => !heard.contains n).foldl countAbsent s

/-- The silence watch restarts at a good frame (R174). -/
def restartSilence (s : State) : State :=
  { s with ring := { s.ring with armed := true, silenceTimer := some (s.param .silenceMs), silentMark := false } }

/-- A good frame's records taken, the contact watch and the silence watch (R166). -/
def frameEvents (l : List Rec) (s : State) : State :=
  let k := l.foldl takeRecord { s := s, seen := [], heard := [] }
  restartSilence (contactWatch k.heard k.s)

/-- Both heads left service in the event and are out of it once its records are taken (R80). That a head which was served back
into service in the same frame does not count is the model's choice (notes/assumptions/23.md). -/
def State.bothLeft (s : State) : Bool :=
  s.ev.left.a && s.ev.left.b && !s.inService .a && !s.inService .b

/-- The queues of two heads that leave service in one event, moved at its end: the lead head's first (R80). -/
def moveBoth (s : State) : State := evalPairing (moveOut s.follow (moveOut s.lead s))

/-- A good frame's event up to its insertion (R166). Where it takes both heads out of service, both count as out of it for every
assignment of the event (R80; notes/assumptions/23.md). -/
def goodFrame (l : List Rec) (s : State) : State :=
  let t := frameEvents l s
  settle
    (if t.bothLeft then moveBoth (frameEvents l { s with ev := { s.ev with bothLeave := true } }) else t)

/-! ### Insertion (R168) -/

/-- The free tail as it is written: the bytes and the number of records so far, the space left, and whether a record did not
fit. -/
structure Tail where
  bytes : List Byte
  count : Nat
  space : Nat
  shut : Bool
deriving DecidableEq, Repr

/-- A record's bytes (10.2), its source the strap address. -/
def State.record (s : State) (dest kind : Nat) (body : List Byte) : List Byte :=
  [byteOf dest, byteOf s.lines.strap, byteOf kind, byteOf body.length] ++ body

/-- A record written where it fits; once one did not, none after it is (R168). -/
def Tail.put (r : List Byte) (t : Tail) : Tail :=
  if t.shut then t
  else if r.length ≤ t.space then { bytes := t.bytes ++ r, count := t.count + 1, space := t.space - r.length, shut := false }
  else { t with shut := true }

/-- The standing order of a node written (R168, 1). -/
def putOrder (s : State) (t : Tail) (n : Node) : Tail :=
  t.put (s.record (s.address n) 80 (orderBody (s.node n).order (s.node n).seq))

/-- Replies written, oldest first; those that do not fit stay (R168, 3). -/
def putReplies (s : State) : List Reply → Tail → Tail × List Reply
  | [], t => (t, [])
  | r :: rest, t =>
    let t' := t.put (s.record r.dest 97 (replyBody r))
    if t'.shut then (t', r :: rest) else putReplies s rest t'

/-- Of two candidates, the one with the higher level, and the first of equal ones. -/
def higherLevel (best : Option (Nat × NoticeRec)) (q : Nat × NoticeRec) : Option (Nat × NoticeRec) :=
  match best with
  | some b => if b.2.level < q.2.level then some q else some b
  | none => some q

/-- The notice chosen: of the pending classes at or above the mask, the highest level, then the lowest class (R192). -/
def chooseNotice (u : NoticeUnit) : Option (Nat × NoticeRec) :=
  ((u.recs.zipIdx.map fun q => (q.2, q.1)).filter fun q => q.2.pending && decide (u.mask ≤ q.2.level)).foldl higherLevel none

/-- Up to `n` notices written, each cleared as it is (R168, 4; R192). -/
def putNotices : Nat → State → Tail → State × Tail
  | 0, s, t => (s, t)
  | n + 1, s, t =>
    match chooseNotice s.notices with
    | none => (s, t)
    | some (cls, r) =>
      let t' := t.put (s.record 63 98 (noticeBody cls r))
      if t'.shut then (s, t')
      else putNotices n { s with notices := { s.notices with recs := s.notices.recs.modify cls NoticeRec.clear } } t'

/-- The free tail before insertion: 1,536 bytes, less those before the received check, less 2 (R168). -/
def Tail.begin (len : Nat) : Tail := { bytes := [], count := 0, space := 1536 - (len - 2) - 2, shut := false }

/-- The part's records written into a good frame's free tail (R168): orders, cell status, replies, notices. -/
def fillTail (len : Nat) (s : State) : State × Tail :=
  let t := Node.all.foldl (putOrder s) (Tail.begin len)
  let t := t.put (s.record 63 96 (cellStatus s))
  let r := putReplies s s.req.replies t
  putNotices (s.param .noticesPerFrame) { s with req := { s.req with replies := r.2 } } r.1

/-- The frame as it leaves: the record count raised, the tail behind the records, a new check (R196). -/
def rebuild (bytes : List Byte) (t : Tail) : List Byte :=
  let body := bytes.take 2 ++ wordBytes (wordAt bytes 2 + t.count) ++ (bytes.take (bytes.length - 2)).drop 4 ++ t.bytes
  body ++ wordBytes (checkSeq body).toNat

/-! ### Ports -/

/-- A port's record. -/
def State.port (s : State) : Port → PortRec
  | .p => s.ring.portP
  | .n => s.ring.portN

/-- The state with a port's record replaced. -/
def State.setPort (s : State) (port : Port) (r : PortRec) : State :=
  match port with
  | .p => { s with ring := { s.ring with portP := r } }
  | .n => { s with ring := { s.ring with portN := r } }

/-- A port's record replaced by one in a new state: PORT_STATE is raised (R162). -/
def movePort (port : Port) (r : PortRec) (s : State) : State := raise (.portState port r.state r.rate) (s.setPort port r)

/-- A port begins training (R163). -/
def beginTraining (port : Port) (s : State) : State := movePort port PortRec.training s

/-- An UP port leaves UP: DOWN, then training again (R164). -/
def leaveUp (port : Port) (s : State) : State := beginTraining port (movePort port PortRec.held s)

/-- A training port enters UP at its rate (R163). -/
def enterUp (port : Port) (s : State) : State :=
  movePort port { state := .up, rate := (s.port port).rate, timer := none, sync := 3, errRun := 0 } s

/-- A port training at a rate. -/
def PortRec.trainingAt (r : Rate) : PortRec := { PortRec.training with rate := some r }

/-- A FAILED port (R163). Its sync count is 0, which is the model's choice (notes/assumptions/52.md). -/
def PortRec.failed : PortRec := { state := .failed, rate := none, timer := some 250, sync := 0, errRun := 0 }

/-- A port's training timer expires (R163). -/
def portExpiry (port : Port) (s : State) : State :=
  match (s.port port).state, (s.port port).rate with
  | .training, some .r100 => movePort port (PortRec.trainingAt .r50) s
  | .training, some .r50 => movePort port (PortRec.trainingAt .r25) s
  | .training, _ => movePort port PortRec.failed s
  | .failed, _ => beginTraining port s
  | _, _ => s

/-- A symbol received on a port (R163, R164). -/
def portSymbol (port : Port) (y : Symbol) (s : State) : State :=
  let r := s.port port
  match r.state with
  | .training =>
    match y with
    | .syncMarker => if 2 ≤ r.sync then enterUp port s else s.setPort port { r with sync := r.sync + 1 }
    | _ => s.setPort port { r with sync := 0 }
  | .up =>
    match y with
    | .error => if 15 ≤ r.errRun then leaveUp port s else s.setPort port { r with errRun := r.errRun + 1 }
    | _ => s.setPort port { r with errRun := 0 }
  | _ => s

/-! ### Forwarding (R165) -/

/-- A frame sent out of a port. -/
def send (port : Port) (bytes : List Byte) (s : State) : State := { s with ring := { s.ring with sent := some ⟨port, bytes⟩ } }

/-- The port a frame from port P leaves by: N when it is UP, else P (R165). -/
def State.wayOut (s : State) : Port := if s.ring.portN.state = .up then .n else .p

/-- A frame that arrived whole on port P (R165, R166). -/
def frameP (bytes : List Byte) (s : State) : State :=
  if s.ring.portP.state = .up then
    if s.passive then send s.wayOut bytes s
    else
      match readFrame bytes with
      | none => send s.wayOut bytes s
      | some l =>
        let r := fillTail bytes.length (goodFrame l s)
        send r.1.wayOut (rebuild bytes r.2) r.1
  else s

/-- A frame that arrived on port N (R165). -/
def frameN (bytes : List Byte) (s : State) : State :=
  if s.ring.portN.state = .up ∧ s.ring.portP.state = .up then send .p bytes s else s

/-! ### The meanings -/

/-- FRAME_ON_PORT_P (R166). -/
def execFrameOnPortP (bytes : List Byte) (s : State) : Meaning := .next (frameP bytes s)

/-- FRAME_ON_PORT_N (R165). -/
def execFrameOnPortN (bytes : List Byte) (s : State) : Meaning := .next (frameN bytes s)

/-- LOSS_OF_SIGNAL (R164): on an UP port. -/
def execLossOfSignal (port : Port) (s : State) : Meaning := .next (if (s.port port).state = .up then leaveUp port s else s)

/-- SYMBOL_ERROR_RUN (R164): the run of an UP port reaches 16. -/
def execSymbolErrorRun (port : Port) (s : State) : Meaning := .next (if (s.port port).state = .up then leaveUp port s else s)

/-- PORT_ENTERS_UP (R163): the sync count of a training port reaches 3. -/
def execPortEntersUp (port : Port) (s : State) : Meaning := .next (if (s.port port).state = .training then enterUp port s else s)

/-- TRAINING_TIMER_EXPIRY (R163): of a running timer. -/
def execTrainingTimerExpiry (port : Port) (s : State) : Meaning := .next (if (s.port port).timer.isSome then portExpiry port s else s)

/-- SYMBOL_RECEIVED (R163, R164). -/
def execSymbolReceived (port : Port) (y : Symbol) (s : State) : Meaning := .next (portSymbol port y s)

end Sys2Proof.Machine
end

