-- ==== Sys2Proof/Machine/Lines.lean ====
section
/-! DEFINITION. The line conditioner (07): raw changes (R151, R152), steady and stuck timers (R151, R153), and the part's reset
pins (R154). -/

namespace Sys2Proof.Machine

/-- A line's record. -/
def State.sense (s : State) : SenseLine → Line
  | .clampSense => s.lines.clamp
  | .extractOk => s.lines.extract
  | .laneSense k => ((s.lines.lanes[k.val]?).map LaneLine.line).getD (Line.steady false)

/-- The state with a lane sensor's record changed. -/
def State.modLaneLine (s : State) (k : Nat) (f : LaneLine → LaneLine) : State :=
  { s with lines := { s.lines with lanes := s.lines.lanes.modify k f } }

/-- The state with a line's record replaced. -/
def State.setSense (s : State) (l : SenseLine) (r : Line) : State :=
  match l with
  | .clampSense => { s with lines := { s.lines with clamp := r } }
  | .extractOk => { s with lines := { s.lines with extract := r } }
  | .laneSense k => s.modLaneLine k.val fun q => { q with line := r }

/-- The state with STOP_IN's record replaced. -/
def State.setStopIn (s : State) (r : Line) : State := { s with lines := { s.lines with stopIn := r } }

/-- A line after its raw level changed (R151): the steady timer starts afresh, or stops. -/
def Line.rawChange (deb : Nat) (active : Bool) (l : Line) : Line :=
  { l with raw := active, timer := if active = l.cond then none else some deb }

/-- A raw change of a debounced line (R151). While RESET_IN is asserted only the pin changes. -/
def rawChange (l : SenseLine) (active : Bool) (s : State) : State :=
  let r := s.sense l
  if s.lines.inReset then s.setSense l { r with raw := active }
  else if r.raw = active then s
  else s.setSense l (r.rawChange (s.param .debounce) active)

/-- STOP_IN becomes asserted (R152, R155): the cause STOP is added and STOP_LATCHED raised. The cause set of a passive part stays
as it is, {REQUEST} (R165). -/
def stopAsserted (s : State) : State := raise .stopLatched (if s.passive then s else addCause Causes.withStop s)

/-- A raw change of STOP_IN (R152). -/
def stopChange (asserted : Bool) (s : State) : State :=
  let r := s.lines.stopIn
  if s.lines.inReset then s.setStopIn { r with raw := asserted }
  else if r.raw = asserted then s
  else if asserted then
    if r.cond then s.setStopIn { r with raw := true, timer := none }
    else stopAsserted (s.setStopIn { raw := true, cond := true, timer := none })
  else s.setStopIn { r with raw := false, timer := if r.cond then some (s.param .debounce) else none }

/-- A line after its steady timer expired (R151). -/
def Line.settled (l : Line) : Line := { l with cond := l.raw, timer := none }

/-- An accepted change of a line handed to its owner (R151, R153, R159, R160). -/
def lineEvent (l : SenseLine) (active : Bool) (s : State) : State :=
  match l with
  | .clampSense => if active then s else settle (clampLost s)
  | .extractOk => if active then settle s else raise .extraction s
  | .laneSense k =>
    if active then
      settle (laneActivated k.val
        (s.modLaneLine k.val fun q => { q with stuckTimer := some (s.param .stuckMs) }))
    else s.modLaneLine k.val fun q => { q with stuckTimer := none, stuck := false }

/-- A steady timer expires (R151, R152). -/
def steadyExpiry (l : InLine) (s : State) : State :=
  match l with
  | .stopIn => if s.lines.stopIn.timer.isSome then s.setStopIn s.lines.stopIn.settled else s
  | .sense l =>
    if (s.sense l).timer.isSome then lineEvent l (s.sense l).raw (s.setSense l (s.sense l).settled) else s

/-- The stuck timer of a lane sensor runs. -/
def State.stuckRunning (s : State) (k : Nat) : Bool :=
  match s.lines.lanes[k]? with
  | some l => l.stuckTimer.isSome
  | none => false

/-- A lane sensor's stuck timer expires (R153, R143). -/
def stuckExpiry (k : Nat) (s : State) : State :=
  if s.stuckRunning k then laneStuck k (s.modLaneLine k fun q => { q with stuckTimer := none, stuck := true }) else s

/-! ### The meanings -/

/-- STOP_IN_CHANGE (R152). -/
def execStopInChange (asserted : Bool) (s : State) : Meaning := .next (stopChange asserted s)

/-- LINE_RAW_CHANGE (R151). -/
def execLineRawChange (l : SenseLine) (active : Bool) (s : State) : Meaning := .next (rawChange l active s)

/-- STEADY_TIMER_EXPIRY (R151). -/
def execSteadyTimerExpiry (l : InLine) (s : State) : Meaning := .next (steadyExpiry l s)

/-- STUCK_TIMER_EXPIRY (R153). -/
def execStuckTimerExpiry (k : Fin 4) (s : State) : Meaning := .next (stuckExpiry k.val s)

/-- POWER_ON (R154). -/
def execPowerOn (straps : BitVec 6) (s : State) : Meaning := .next (startPart straps.toNat s)

/-- RESET_IN_ASSERTED (R154). -/
def execResetInAsserted (s : State) : Meaning := .next (holdPart s)

/-- RESET_IN_RELEASED (R154): where RESET_IN was asserted. -/
def execResetInReleased (straps : BitVec 6) (s : State) : Meaning :=
  .next (if s.lines.inReset then startPart straps.toNat s else s)

end Sys2Proof.Machine
end

