-- ==== Sys2Proof/Machine/Timers.lean ====
section
/-! DEFINITION. The expiries of the part's timers and watches. Each acts on a running timer only: a completion taken first, or
any other end of what it timed, has stopped it. -/

namespace Sys2Proof.Machine

/-- TAKE_TIMEOUT (R170): the node enters FAULT with reason TAKE. -/
def takeExpiry (n : Node) (s : State) : State :=
  if (s.node n).takeTimer.isSome then
    settle (nodeFault n .take (s.setNode n { s.node n with takeTimer := none }))
  else s

/-- LOCATE_TIMEOUT (R28): NONE withdraws the LOCATE and the record is REFUSED, TIMEOUT. -/
def locateExpiry (s : State) : State :=
  if s.loc.state = .measuring ∧ s.loc.timer.isSome then
    settle (refuse .timeout none (writeOrder .vision .none s))
  else s

/-- HEAD_TIMER_EXPIRY (R95, R96). -/
def headExpiry (h : Head) (s : State) : State :=
  if (s.head h).timer.isSome then
    settle (headFault h (if (s.head h).state = .parking then .parkTimeout else .cutTimeout) s)
  else s

/-- TOOL_TIMEOUT (R114). -/
def toolExpiry (h : Head) (s : State) : State :=
  match s.change h with
  | some c => if c.timer.isSome then settle (headFault h .tool s) else s
  | none => s

/-- PICK_TIMER_EXPIRY (R127): RETRACT supersedes the PICK. -/
def pickExpiry (s : State) : State :=
  match s.hand.picker.order with
  | some (.pick, _) => if s.hand.picker.timer.isSome then writePicker .retract .retract s else s
  | _ => s

/-- PICKER_ORDER_TIMEOUT (R121): of a RETRACT, LIFT, STAY or PLACE. -/
def pickerExpiry (s : State) : State :=
  match s.hand.picker.order with
  | some (.pick, _) => s
  | some _ => if s.hand.picker.timer.isSome then settle (pickerFault .timeout s) else s
  | none => s

/-- INDEX_TIMEOUT (R120). -/
def indexExpiry (s : State) : State :=
  if s.hand.elevator.timer.isSome then settle (elevatorFault .timeout s) else s

/-- CONFIRM_WINDOW_END (R137): of a CLOSING window. -/
def confirmExpiry (s : State) : State :=
  match s.hand.service with
  | some v =>
    match v.window with
    | some (.closing _) => settle (windowEnds s)
    | _ => s
  | none => s

/-- SILENCE_TIMER_EXPIRY (R174): the silent mark, the hold cause SILENCE, RING_SILENCE. -/
def silenceExpiry (s : State) : State :=
  if s.ring.silenceTimer.isSome then
    raise .ringSilence
      (addCause Causes.withSilence { s with ring := { s.ring with silenceTimer := none, silentMark := true } })
  else s

/-- CONTACT_LOSS (R173): the count of a PRESENT node with a clear latch reaches 8. -/
def contactExpiry (n : Node) (s : State) : State :=
  if (s.node n).present ∧ (s.node n).latch = none then settle (loseContact n s) else s

/-! ### The meanings -/

/-- TAKE_TIMEOUT (R170). -/
def execTakeTimeout (n : Node) (s : State) : Meaning := .next (takeExpiry n s)

/-- LOCATE_TIMEOUT (R28). -/
def execLocateTimeout (s : State) : Meaning := .next (locateExpiry s)

/-- HEAD_TIMER_EXPIRY (R95, R96). -/
def execHeadTimerExpiry (h : Head) (s : State) : Meaning := .next (headExpiry h s)

/-- TOOL_TIMEOUT (R114). -/
def execToolTimeout (h : Head) (s : State) : Meaning := .next (toolExpiry h s)

/-- PICK_TIMER_EXPIRY (R127). -/
def execPickTimerExpiry (s : State) : Meaning := .next (pickExpiry s)

/-- PICKER_ORDER_TIMEOUT (R121). -/
def execPickerOrderTimeout (s : State) : Meaning := .next (pickerExpiry s)

/-- INDEX_TIMEOUT (R120). -/
def execIndexTimeout (s : State) : Meaning := .next (indexExpiry s)

/-- CONFIRM_WINDOW_END (R137). -/
def execConfirmWindowEnd (s : State) : Meaning := .next (confirmExpiry s)

/-- SILENCE_TIMER_EXPIRY (R174). -/
def execSilenceTimerExpiry (s : State) : Meaning := .next (silenceExpiry s)

/-- CONTACT_LOSS (R173). -/
def execContactLoss (n : Node) (s : State) : Meaning := .next (contactExpiry n s)

end Sys2Proof.Machine
end

