-- ==== Sys2Proof/Machine/Dispatch.lean ====
section
/-! DEFINITION. One arm for each command of spec/opcode_table.json: its meaning on everything but the queue of commands. -/

namespace Sys2Proof.Machine

/-- A command's meaning. -/
def exec (i : Instr) (s : State) : Host.Outcome State Fault Refusal :=
  match i with
  | .recipeLoad src tag slot offset count items => Sys2Proof.Machine.execRecipeLoad src tag slot offset count items s
  | .recipeCommit src tag slot count check => Sys2Proof.Machine.execRecipeCommit src tag slot count check s
  | .recipeDrop src tag slot => Sys2Proof.Machine.execRecipeDrop src tag slot s
  | .panelAnnounce src tag id slot bad => Sys2Proof.Machine.execPanelAnnounce src tag id slot bad s
  | .panelStart src tag => Sys2Proof.Machine.execPanelStart src tag s
  | .panelEject src tag => Sys2Proof.Machine.execPanelEject src tag s
  | .panelAbort src tag id => Sys2Proof.Machine.execPanelAbort src tag id s
  | .cellHold src tag => Sys2Proof.Machine.execCellHold src tag s
  | .cellResume src tag => Sys2Proof.Machine.execCellResume src tag s
  | .cellReset src tag => Sys2Proof.Machine.execCellReset src tag s
  | .laneSet src tag lane slots variants fill blocked => Sys2Proof.Machine.execLaneSet src tag lane slots variants fill blocked s
  | .laneRelease src tag lane => Sys2Proof.Machine.execLaneRelease src tag lane s
  | .laneClearJam src tag lane => Sys2Proof.Machine.execLaneClearJam src tag lane s
  | .binEmptied src tag => Sys2Proof.Machine.execBinEmptied src tag s
  | .rackSet src tag position state_ cls wear => Sys2Proof.Machine.execRackSet src tag position state_ cls wear s
  | .toolChange src tag head => Sys2Proof.Machine.execToolChange src tag head s
  | .paramSet src tag param value => Sys2Proof.Machine.execParamSet src tag param value s
  | .paramGet src tag param => Sys2Proof.Machine.execParamGet src tag param s
  | .tableRead src tag table selector start count => Sys2Proof.Machine.execTableRead src tag table selector start count s
  | .noticeMask src tag level => Sys2Proof.Machine.execNoticeMask src tag level s
  | .noticeLevel src tag cls level => Sys2Proof.Machine.execNoticeLevel src tag cls level s
  | .identify src tag => Sys2Proof.Machine.execIdentify src tag s
  | .validationEnd slot => Sys2Proof.Machine.execValidationEnd slot s
  | .expansionComplete => Sys2Proof.Machine.execExpansionComplete s
  | .frameOnPortP bytes => Sys2Proof.Machine.execFrameOnPortP bytes s
  | .frameOnPortN bytes => Sys2Proof.Machine.execFrameOnPortN bytes s
  | .lossOfSignal port => Sys2Proof.Machine.execLossOfSignal port s
  | .symbolErrorRun port => Sys2Proof.Machine.execSymbolErrorRun port s
  | .portEntersUp port => Sys2Proof.Machine.execPortEntersUp port s
  | .trainingTimerExpiry port => Sys2Proof.Machine.execTrainingTimerExpiry port s
  | .stopInChange asserted => Sys2Proof.Machine.execStopInChange asserted s
  | .lineRawChange line active => Sys2Proof.Machine.execLineRawChange line active s
  | .steadyTimerExpiry line => Sys2Proof.Machine.execSteadyTimerExpiry line s
  | .stuckTimerExpiry lane => Sys2Proof.Machine.execStuckTimerExpiry lane s
  | .powerOn straps => Sys2Proof.Machine.execPowerOn straps s
  | .resetInAsserted => Sys2Proof.Machine.execResetInAsserted s
  | .resetInReleased straps => Sys2Proof.Machine.execResetInReleased straps s
  | .takeTimeout node => Sys2Proof.Machine.execTakeTimeout node s
  | .locateTimeout => Sys2Proof.Machine.execLocateTimeout s
  | .headTimerExpiry head => Sys2Proof.Machine.execHeadTimerExpiry head s
  | .toolTimeout head => Sys2Proof.Machine.execToolTimeout head s
  | .pickTimerExpiry => Sys2Proof.Machine.execPickTimerExpiry s
  | .pickerOrderTimeout => Sys2Proof.Machine.execPickerOrderTimeout s
  | .indexTimeout => Sys2Proof.Machine.execIndexTimeout s
  | .confirmWindowEnd => Sys2Proof.Machine.execConfirmWindowEnd s
  | .silenceTimerExpiry => Sys2Proof.Machine.execSilenceTimerExpiry s
  | .contactLoss node => Sys2Proof.Machine.execContactLoss node s
  | .symbolReceived port symbol => Sys2Proof.Machine.execSymbolReceived port symbol s

end Sys2Proof.Machine
end

