-- ==== Sys2Proof/Machine/Step.lean ====
section
/-! DEFINITION. One step: the command at the front of the queue, or, with no command waiting, the part's own request queue. -/

namespace Sys2Proof.Machine

/-- One step. The command at the front of the queue runs on the state with the queue's rest. With none waiting, the part handles
the request at the front of its own queue when the reply queue has room (R178), and idles otherwise
(notes/assumptions/2.md). -/
def step (s : State) : Host.Outcome State Fault Refusal :=
  match s.pending with
  | c :: rest => exec c { s with pending := rest }
  | [] => .next (handleFront s)

/-- The state with the command a word spells put at the front of the queue; unchanged where it spells none, which is every word
of this table (notes/assumptions/3.md). -/
def State.withFetchWord (s : State) (nbits w : Nat) : State :=
  match decodeTableWord nbits w with
  | some c => { s with pending := c :: s.pending }
  | none => s

end Sys2Proof.Machine
end

