-- ==== Sys2Proof/Safety.lean ====
section
/-! DEFINITION. The laws the manual states of the whole part, as conditions on a state, and the terms the statements about the
part are made in. -/

namespace Sys2Proof.Machine

/-! ### Laws of the whole part -/

/-- The tables have the sizes the manual gives them: 8 recipe slots (R1), 8 rack positions (R107), 4 lanes (R140), 4 lane
sensors (R150), 42 parameters (R181), 20 notice classes (R190). -/
def State.shape (s : State) : Bool :=
  s.recipes.slots.length == 8 && s.spindle.rack.length == 8 && s.hand.lanes.length == 4 && s.lines.lanes.length == 4 &&
    s.req.params.length == 42 && s.notices.recs.length == 20

/-- Every parameter holds a value inside its range (R181, R182), and there are 42 of them. -/
def State.paramsInRange (s : State) : Bool :=
  s.req.params.length == paramTable.length &&
    (s.req.params.zip paramTable).all fun q => decide (q.2.lo ≤ q.1) && decide (q.1 ≤ q.2.hi)

/-- LOAD_LOW stays below LOAD_HIGH (R183). -/
def State.loadOrdered (s : State) : Bool := decide (s.param .loadLow < s.param .loadHigh)

/-- The bounds of the request unit's queues (R176): at most 4 requests, at most 8 replies with the places promised. -/
def State.queuesBounded (s : State) : Bool :=
  decide (s.req.requests.length ≤ 4) && decide (s.req.replies.length + s.req.reserved ≤ 8)

/-- The number of slots being validated. -/
def State.validating (s : State) : Nat := s.recipes.slots.countP fun r => r.mode == .validating && r.validation.isSome

/-- A place is reserved for each validation in flight (R176, R178). -/
def State.reservedLaw (s : State) : Bool := s.req.reserved == s.validating

/-- The law of the bin (R144): filled and reserved together never exceed REJECT_CAPACITY. -/
def State.binLaw (s : State) : Bool := decide (s.hand.binFilled + s.hand.binReserved ≤ s.param .rejectCapacity)

/-- The store total is the number of filled offsets over all slots (R1). -/
def State.storeLaw (s : State) : Bool := s.recipes.total == (s.recipes.slots.map RecipeSlot.filled).sum

/-- A port record as R162 to R164 have it: a rate in TRAINING and UP only, the training timer in TRAINING and FAILED only with
the value of its state, a sync count below 3 in TRAINING, an error run below 16 in UP. -/
def PortRec.ok (r : PortRec) : Bool :=
  match r.state with
  | .down => r.rate == none && r.timer == none
  | .training => r.rate.isSome && r.timer == some 2 && decide (r.sync < 3)
  | .up => r.rate.isSome && r.timer == none && decide (r.errRun < 16)
  | .failed => r.rate == none && r.timer == some 250

/-- Both ports' records are as R162 to R164 have them. -/
def State.portsOk (s : State) : Bool := s.ring.portP.ok && s.ring.portN.ok

/-- A class record as R190 to R193 have it: a record with nothing pending has merge count 0 and no detail, the detail is one
of the class, and the merge count and the level stay in their ranges. -/
def NoticeRec.ok (cls : Nat) (r : NoticeRec) : Bool :=
  decide (r.merge ≤ 255) && decide (r.level ≤ 3) &&
    (match r.detail with
      | some d => r.pending && d.cls == cls
      | none => !r.pending && r.merge == 0)

/-- Every class record is as R190 to R193 have it, and the mask is at most 4. -/
def State.noticesOk (s : State) : Bool :=
  (s.notices.recs.zipIdx.all fun q => q.1.ok q.2) && decide (s.notices.mask ≤ 4)

/-- A node record as R169, R172 and R173 have it: a sequence number of one byte, a contact count of at most 8, a fresh mark
only with the latch set, no take timer once the order is taken. -/
def NodeRec.ok (r : NodeRec) : Bool :=
  decide (r.seq ≤ 255) && decide (r.contact ≤ 8) && (r.latch.isSome || !r.fresh) && (r.takeTimer.isNone || !r.taken)

/-- Every node record is as R169, R172 and R173 have it. -/
def State.nodesOk (s : State) : Bool := Node.all.all fun n => (s.node n).ok

/-! ### Terms of the statements -/

/-- What the work of the cell leaves alone: what the line controller has set up, the request unit, the recipes, the lines, the
ports and the silence watch, the announced panels, and the model's own queue and counter. -/
structure Setup where
  pending : List Instr
  req : ReqUnit
  recipes : RecipeStore
  lines : Lines
  portP : PortRec
  portN : PortRec
  armed : Bool
  silenceTimer : Option Nat
  silentMark : Bool
  sent : Option Sent
  mask : Nat
  levels : List Nat
  announce : List Announce
  free : Nat
deriving DecidableEq, Repr

/-- That part of a state. -/
def State.setup (s : State) : Setup :=
  { pending := s.pending, req := s.req, recipes := s.recipes, lines := s.lines, portP := s.ring.portP
    portN := s.ring.portN, armed := s.ring.armed, silenceTimer := s.ring.silenceTimer, silentMark := s.ring.silentMark
    sent := s.ring.sent, mask := s.notices.mask, levels := s.notices.recs.map NoticeRec.level
    announce := s.tracker.announce, free := s.free }

/-- The request unit with a reply behind those it holds (R178). -/
def ReqUnit.reply (u : ReqUnit) (r : Reply) : ReqUnit := { u with replies := u.replies ++ [r] }

/-- The state with a reply behind those it holds (R178, R180). -/
def State.answer (s : State) (src tag kind : Nat) (c : Code) (data : List Byte) : State :=
  { s with req := s.req.reply { dest := src, tag := tag, kind := kind, code := c, data := data } }

/-- The part handles a request at once: out of reset and not passive, no request queued, room for a reply (R178). -/
def State.ready (s : State) : Bool := s.serving && s.req.requests.isEmpty && s.replyRoom

/-- The request a request command stands for. -/
def requestOf : Instr → Option Request
  | .recipeLoad src tag slot offset count items => some ⟨src, tag, .recipeLoad slot offset count items⟩
  | .recipeCommit src tag slot count check => some ⟨src, tag, .recipeCommit slot count check⟩
  | .recipeDrop src tag slot => some ⟨src, tag, .recipeDrop slot⟩
  | .panelAnnounce src tag id slot bad => some ⟨src, tag, .panelAnnounce id slot bad⟩
  | .panelStart src tag => some ⟨src, tag, .panelStart⟩
  | .panelEject src tag => some ⟨src, tag, .panelEject⟩
  | .panelAbort src tag id => some ⟨src, tag, .panelAbort id⟩
  | .cellHold src tag => some ⟨src, tag, .cellHold⟩
  | .cellResume src tag => some ⟨src, tag, .cellResume⟩
  | .cellReset src tag => some ⟨src, tag, .cellReset⟩
  | .laneSet src tag lane slots variants fill blocked => some ⟨src, tag, .laneSet lane slots variants fill blocked⟩
  | .laneRelease src tag lane => some ⟨src, tag, .laneRelease lane⟩
  | .laneClearJam src tag lane => some ⟨src, tag, .laneClearJam lane⟩
  | .binEmptied src tag => some ⟨src, tag, .binEmptied⟩
  | .rackSet src tag position state cls wear => some ⟨src, tag, .rackSet position state cls wear⟩
  | .toolChange src tag head => some ⟨src, tag, .toolChange head⟩
  | .paramSet src tag param value => some ⟨src, tag, .paramSet param value⟩
  | .paramGet src tag param => some ⟨src, tag, .paramGet param⟩
  | .tableRead src tag table selector start count => some ⟨src, tag, .tableRead table selector start count⟩
  | .noticeMask src tag level => some ⟨src, tag, .noticeMask level⟩
  | .noticeLevel src tag cls level => some ⟨src, tag, .noticeLevel cls level⟩
  | .identify src tag => some ⟨src, tag, .identify⟩
  | .validationEnd _ => none
  | .expansionComplete => none
  | .frameOnPortP _ => none
  | .frameOnPortN _ => none
  | .lossOfSignal _ => none
  | .symbolErrorRun _ => none
  | .portEntersUp _ => none
  | .trainingTimerExpiry _ => none
  | .stopInChange _ => none
  | .lineRawChange _ _ => none
  | .steadyTimerExpiry _ => none
  | .stuckTimerExpiry _ => none
  | .powerOn _ => none
  | .resetInAsserted => none
  | .resetInReleased _ => none
  | .takeTimeout _ => none
  | .locateTimeout => none
  | .headTimerExpiry _ => none
  | .toolTimeout _ => none
  | .pickTimerExpiry => none
  | .pickerOrderTimeout => none
  | .indexTimeout => none
  | .confirmWindowEnd => none
  | .silenceTimerExpiry => none
  | .contactLoss _ => none
  | .symbolReceived _ _ => none

/-- The notice unit once the notice it chooses has been written: that class is clear (R192). -/
def NoticeUnit.sendOne (u : NoticeUnit) : NoticeUnit :=
  match chooseNotice u with
  | some (cls, _) => { u with recs := u.recs.modify cls fun r => { r with pending := false, merge := 0, detail := none } }
  | none => u

/-- The notice unit once n notices have been written. -/
def NoticeUnit.sent : Nat → NoticeUnit → NoticeUnit
  | 0, u => u
  | n + 1, u => NoticeUnit.sent n u.sendOne

/-- The notices chosen for one frame, at most n, in the order chosen (R192). -/
def NoticeUnit.chosen : Nat → NoticeUnit → List (Nat × NoticeRec)
  | 0, _ => []
  | n + 1, u =>
    match chooseNotice u with
    | some q => q :: NoticeUnit.chosen n u.sendOne
    | none => []

/-- The records the part has for a good frame, in their order of priority (R168): the standing orders, the cell status, the
replies, the notices. -/
def State.ownRecords (s : State) : List Rec :=
  (Node.all.map fun n =>
    { dest := s.address n, src := s.lines.strap, kind := 80, body := orderBody (s.node n).order (s.node n).seq }) ++
  [{ dest := 63, src := s.lines.strap, kind := 96, body := cellStatus s }] ++
  (s.req.replies.map fun r => { dest := r.dest, src := s.lines.strap, kind := 97, body := replyBody r }) ++
  (s.notices.chosen (s.param .noticesPerFrame)).map fun q =>
    { dest := 63, src := s.lines.strap, kind := 98, body := noticeBody q.1 q.2 }

/-- The bytes that records take in a frame (10.2). -/
def recordSpace (l : List Rec) : Nat := (l.map fun r => 4 + r.body.length).sum

/-- The class record of a notice, as it stands. -/
def State.notice (s : State) (cls : Nat) : Option NoticeRec := s.notices.recs[cls]?

/-- The node record after the latch is set with a reason: the first reason stays (R172). -/
def State.latchAfter (s : State) (n : Node) (why : FaultReason) : Option FaultReason :=
  match (s.node n).latch with
  | some w => some w
  | none => some why

/-- Head h has entered FAULT with a reason between s and t (R74): the head, the latch, the notice. -/
def headFaulted (h : Head) (why : FaultReason) (s t : State) : Bool :=
  (t.head h).state == .fault && (t.head h).reason == some why && (t.head h).timer == none &&
    (t.node h.node).latch == s.latchAfter h.node why &&
    t.notice 2 == (s.notice 2).map (NoticeRec.raise (.headFault h why))

/-- The picker has entered FAULT with a reason between s and t (R121): no order is outstanding, the service is FREE, the notice
names the board that was served. -/
def pickerFaulted (why : FaultReason) (s t : State) : Bool :=
  t.hand.picker == { state := .fault, reason := some why, order := none, timer := none, retractDue := false } &&
    t.hand.service == none && (t.node .picker).latch == s.latchAfter .picker why &&
    t.notice 3 ==
      (s.notice 3).map (NoticeRec.raise (.pickerFault why (s.hand.service.map fun v => (v.panel, v.board))))

/-- What a picker fault between s and t did to the board the service served (R145). A RESERVED slot is SUSPECT, and counted,
where its PLACE was written, and else EMPTY; a held contingency is released. A board in GRIP_WAIT, GRIPPED or RELEASING is
READY, a good one with no destination, at the front of the pick queue, but for a RELEASING one whose release cut runs on; with
an abort mark it is RETAINED, ABORTED, and its tabs are skipped (R66, R60). A FREE or IN_TRANSIT one is LOST, PICKER_FAULT,
and BOARD_LOST is raised (R65). A board LOST or RETAINED gives up its bin place (R58). A granted release tab is HELD again
with no place, an ORDERED one is stopped with cause HOLD (R83), and a settlement pending is cleared. A torn board's place is
released with nothing else (R145). -/
def servedSettled (s t : State) : Prop :=
  ∀ v, s.hand.service = some v →
    let bin : Nat := s.hand.binReserved - (if v.contingency then 1 else 0)
    let given (r : Board) : Nat := bin - (if r.bad = true ∧ r.dest = some .bin then 1 else 0)
    let lost (p : Panel) : Option NoticeRec :=
      (s.notice 15).map (NoticeRec.raise (.boardLost p.id v.board .pickerFault));
    t.hand.binFilled = s.hand.binFilled ∧
    (∀ k i, v.dest = .lane k i → s.slot k i = some .reserved →
      t.slot k i = some (if v.window.isSome then .suspect else .empty) ∧
      (t.lane k).map (fun l => (l.filled, l.suspect)) =
        (s.lane k).map (fun l => (l.filled, if v.window.isSome then l.suspect + 1 else l.suspect))) ∧
    (v.torn = true → t.hand.binReserved = bin ∧ t.tracker.pickQueue = s.tracker.pickQueue ∧ t.notice 15 = s.notice 15) ∧
    (v.torn = false → ∀ p, s.tracker.active = some p → p.id = v.panel →
      (∀ c, s.tracker.closing = some c → c.half ≠ p.half) → ∀ r, (s.half p.half)[v.board]? = some r →
      let tally (y : Tally) : Prop := t.tracker.active.map (fun q => (q.id, q.tally)) = some (p.id, y)
      let back (queue : List Nat) : Prop :=
        t.board .active v.board = some { r with state := .ready, dest := if r.bad then r.dest else none } ∧
          t.tracker.pickQueue = queue ∧ t.hand.binReserved = bin ∧ tally p.tally
      let retained : Prop := t.boardState .active v.board = some (.retained .aborted) ∧ t.hand.binReserved = given r ∧
        tally { p.tally with retained := p.tally.retained + 1 }
      let listed (u : State) (i : Nat) : Prop := i ∈ (u.head .a).queue ∨ i ∈ (u.head .b).queue ∨ i ∈ u.disp.unassigned;
      (r.state = .gripWait ∨ r.state = .gripped →
        (p.abort = none → back (v.board :: s.tracker.pickQueue)) ∧ (p.abort.isSome = true → retained)) ∧
      (r.state = .free ∨ r.state = .inTransit → t.boardState .active v.board = some (.lost .pickerFault) ∧
        t.hand.binReserved = given r ∧ tally { p.tally with lost := p.tally.lost + 1 } ∧ t.notice 15 = lost p) ∧
      (∀ x, s.tab r.releaseTab = some x →
        let i : Nat := r.releaseTab
        let own : Prop := x.kind = .frame ∧ x.owner = v.board
        let state (st : TabState) : Prop := (t.tab i).map Tab.state = some st;
        (r.state = .gripWait ∨ r.state = .gripped →
          (p.abort = none → x.state = .queued →
            t.tab i = some { x with state := .held, place := none } ∧ ¬ listed t i) ∧
          (p.abort = none → x.state = .held → ¬ listed s i → t.tab i = some x) ∧
          (p.abort.isSome = true → own → x.state = .queued ∨ x.state = .held → state .skipped)) ∧
        (r.state = .releasing → x.state = .held →
          (p.abort = none → back (v.board :: s.tracker.pickQueue) ∧
            (¬ listed s i → t.tab i = some { x with settlement := none })) ∧
          (p.abort.isSome = true → retained ∧ (own → state .skipped))) ∧
        (r.state = .releasing → x.state = .ordered → state .ordered ∧
          (p.abort = none → back s.tracker.pickQueue) ∧
          (p.abort.isSome = true → retained ∧ (own → (t.tab i).map Tab.standing = some true)) ∧
          (∀ h, (s.head h).tab = some i → (s.head h).state = .cutting → (h = .b → (s.head .a).tab ≠ some i) →
            (t.head h).state = .stopping ∧ (t.head h).cause = some .hold ∧ (t.node h.node).order = .stop)))) ∧
    (v.torn = false → ∀ c, s.tracker.closing = some c → c.id = v.panel →
      (∀ p, s.tracker.active = some p → p.id ≠ v.panel) → ∀ r, (s.half c.half)[v.board]? = some r →
      r.state = .free ∨ r.state = .inTransit →
      let tally : Tally := { c.tally with lost := c.tally.lost + 1 };
      t.hand.binReserved = given r ∧ t.notice 15 = lost c ∧
      ((t.tracker.closing = some { c with tally := tally } ∧ t.boardState .closing v.board = some (.lost .pickerFault)) ∨
        (t.tracker.closing = none ∧ t.tracker.lastTally = some { id := c.id, tally := tally })))

/-- What the end of head h's cut by a fault or a timeout, for a reason of R95, did between s and t, short of the arbiter (R95,
steps 3 to 6). The tab's attempts rise by one, with no feed class lowered, and its peak is written. It is settled by R93, or
R94 for a release tab: SKIPPED by a standing skip; by an early lift, torn or HELD with STAY written; HELD where a picker fault made the board
READY, which joins the front of the pick queue; SKIPPED for an aborted panel's release tab; FAILED at MAX_ATTEMPTS, with
TAB_FAILED and the boards it joins RETAINED; else QUEUED at the front by the SINGLE rules, with the head's other tabs
reassigned behind it (R80). The model's choices in it: a torn board's service has destination BIN (notes/assumptions/21.md),
what a pending settlement holds: the head, whether the cut ended by STOPPED, and how (notes/assumptions/20.md), a release tab
among the reassigned ones ahead of the settled tab (notes/assumptions/56.md), and attempts that rise past 5
(notes/assumptions/58.md). -/
def cutSettled (h : Head) (why : FaultReason) (s t : State) : Prop :=
  (s.head h).state = .cutting ∨ (s.head h).state = .stopping →
  ∀ i, (s.head h).tab = some i → i ∉ (s.head h).queue → ∀ x, s.tab i = some x →
    let attempts : Nat := x.attempts + 1
    let tries : Nat := s.param .maxAttempts
    let how : CutHow := match why with
      | .status => .status
      | .contact => .contact
      | .take => .take
      | .cutTimeout => .cutTimeout
      | _ => .cutFault
    let failed : Option NoticeRec := (s.notice 7).map (NoticeRec.raise (.tabFailed s.activeId i how))
    let state (st : TabState) : Prop := (t.tab i).map Tab.state = some st
    let queue : List Nat := (s.head h).queue
    let serves : Bool := (s.head h.other).state ∉ [HeadState.offline, .noTool, .fault]
    let reached (j : Nat) : Bool := match s.tab j with
      | some y => match h.other with
        | .a => decide (y.start.x ≤ s.param .reachAMax ∧ y.stop.x ≤ s.param .reachAMax)
        | .b => decide ((s.param .reachBMin : Int) ≤ y.start.x ∧ (s.param .reachBMin : Int) ≤ y.stop.x)
      | none => false
    let other (j : Nat) : Bool := serves && reached j
    let release (j : Nat) : Bool := (s.tab j).map Tab.release == some true
    let put (l old : List Nat) : List Nat := (l.filter release).reverse ++ old ++ l.filter fun j => !release j
    let requeued : Prop := state .queued ∧
      (s.ev.bothLeave = false → s.ev.settled.get h = none → (∀ j, j ∈ queue → (s.tab j).isSome = true) →
        (t.tab i).map Tab.place = some (some (if other i then placeOf h.other else .unassigned)) ∧
        (t.head h).queue = [] ∧
        (t.head h.other).queue =
          put (queue.filter other) ((if other i then [i] else []) ++ (s.head h.other).queue) ∧
        t.disp.unassigned =
          put (queue.filter fun j => !other j) ((if other i then [] else [i]) ++ s.disp.unassigned) ∧
        t.disp.paired = false);
    (t.head h).tab = none ∧ (t.head h).cause = none ∧
    (t.tab i).map (fun y => (y.attempts, y.feed, y.peak)) =
      some (attempts, x.feed, some ((s.filter h).peak.getD 0)) ∧
    (x.standing = true → state .skipped) ∧
    (x.standing = false → x.release = false →
      (tries ≤ attempts → state .failed ∧ t.notice 7 = failed ∧
        ∀ b : Nat, b = x.owner ∨ x.linked = some b → ∀ q, s.board .active b = some q →
          q.state = .attached ∨ q.state = .ready ∨ q.state = .gripWait ∨ q.state = .gripped →
          t.boardState .active b = some (.retained .tabFailed)) ∧
      (attempts < tries → requeued)) ∧
    (x.standing = false → x.release = true → ∀ r, s.board .active x.owner = some r →
      let board (st : BoardState) : Prop := t.boardState .active x.owner = some st;
      (r.state = .releasing →
        (s.earlyLift x.owner = .lifted → state .skipped ∧ board (.lost .torn) ∧
          t.hand.service.map (fun v => (v.torn, v.dest)) = some (true, .bin)) ∧
        (s.earlyLift x.owner = .dropped → state .skipped ∧ board (.lost .torn) ∧ t.hand.service = none) ∧
        (s.earlyLift x.owner = .out → state .held ∧ board .releasing ∧
          (t.tab i).map Tab.settlement = some (some ⟨h, false, how⟩) ∧
          (t.node .picker).order = .stay s.activeId x.owner) ∧
        (s.earlyLift x.owner = .none →
          (s.abortMarked = true → state .skipped ∧ board (.retained .aborted)) ∧
          (s.abortMarked = false → tries ≤ attempts →
            state .failed ∧ t.notice 7 = failed ∧ board (.retained .tabFailed)) ∧
          (s.abortMarked = false → attempts < tries → requeued ∧ board .gripped))) ∧
      (r.state = .ready → s.earlyLift x.owner = .none → state .held ∧ board .ready ∧
        t.tracker.pickQueue =
          if x.owner ∈ s.tracker.pickQueue then s.tracker.pickQueue else x.owner :: s.tracker.pickQueue))

/-- The elevator has entered FAULT with a reason between s and t (R120). -/
def elevatorFaulted (why : FaultReason) (s t : State) : Bool :=
  t.hand.elevator == { state := .fault, reason := some why, order := none, timer := none } &&
    (t.node .elevator).latch == s.latchAfter .elevator why &&
    t.notice 4 == (s.notice 4).map (NoticeRec.raise (.elevatorFault why))

/-- What entering HELD does to a head's record: a CUTTING head becomes STOPPING with cause HOLD (R91, R155). -/
def HeadRec.onHold (r : HeadRec) : HeadRec :=
  if r.state = .cutting then { r with state := .stopping, cause := some .hold } else r

/-- What entering HELD does to a head's order slot: a CUTTING head is sent STOP (R91, R155). -/
def State.slotOnHold (s : State) (h : Head) : NodeRec :=
  if (s.head h).state = .cutting then (s.node h.node).write .stop (s.param .takeTimeout) else s.node h.node

/-- The state once a hold cause is added: the cause set as given and, where that took the cell from RUN to HELD, every cut
stopped (R155). -/
def State.withCauses (s : State) (c : Causes) : State :=
  { s with
    lines := { s.lines with causes := c }
    disp := { s.disp with
      heads := if s.running then ⟨s.disp.heads.a.onHold, s.disp.heads.b.onHold⟩ else s.disp.heads }
    ring := { s.ring with
      nodes :=
        if s.running then { s.ring.nodes with headA := s.slotOnHold .a, headB := s.slotOnHold .b } else s.ring.nodes } }

/-- An order that may be written while the cell is HELD: one that supersedes an order already out (R156). -/
def Order.supersedes : Order → Bool
  | .stop => true
  | .retract => true
  | .stay _ _ => true
  | .none => true
  | _ => false

end Sys2Proof.Machine
end

