-- ==== Sys2Proof/WellFormed.lean ====
section
/-! DEFINITION. The commands whose operands fit the fields that carry them on the ring (10.1, 10.2, 10.6). The part's own
range checks are not these: a byte operand outside its range is well formed here and answered RANGE by its meaning. -/

namespace Sys2Proof

/-- An operand carried as a byte (10.1). -/
def isByte (n : Nat) : Bool := n < 256

/-- An operand carried as a word (10.1). -/
def isWord (n : Nat) : Bool := n < 65536

/-- An operand carried as a long (10.1). -/
def isLong (n : Nat) : Bool := n < 4294967296

/-- A signed 32-bit coordinate (10.1). -/
def isCoord (z : Int) : Bool := decide (-2147483648 ≤ z) && decide (z ≤ 2147483647)

/-- A ring address, 0..63 (10.2). -/
def isAddress (n : Nat) : Bool := n < 64

/-- A tag, 0..255 (R179). -/
def isTag (n : Nat) : Bool := isByte n

/-- A layout item every operand of which fits its field (10.5). -/
def Item.fits : Item → Bool
  | .fiducial i x y => isByte i && isCoord x && isCoord y
  | .board v dx dy gx gy => isByte v && isCoord dx && isCoord dy && isCoord gx && isCoord gy
  | .tab _ _ dx dy l f d => isCoord dx && isCoord dy && isWord l && isByte f && isByte d
  | .opn c dx dy => isByte c && isCoord dx && isCoord dy
  | .cls => true
  | .exitAfter n => isByte n

/-- One item of a load, known or not. -/
def LoadItem.fits : LoadItem → Bool
  | .known i => i.fits
  | .unknown => true

/-- The item list of a load agrees with its count byte: as many items as the byte says, or fewer when the bytes of the
last one read name no item (R198: reading stops there). -/
def loadListFits (count : Nat) (items : List LoadItem) : Bool :=
  items.all LoadItem.fits &&
    (items.length == count || (items.length < count && items.getLast? == some .unknown))

/-- A list carried behind a count byte, one byte for each member (10.6: the bad set and the blocked list). -/
def isByteList (l : List Nat) : Bool := isByte l.length && l.all isByte

/-- The head of every request: its source address and its tag. -/
def isRequestHead (src tag : Nat) : Bool := isAddress src && isTag tag

/-- The well-formed commands. -/
def Instr.wf : Instr → Bool
  | .recipeLoad src tag slot offset count items =>
    isRequestHead src tag && isByte slot && isWord offset && isByte count && loadListFits count items
  | .recipeCommit src tag slot count check =>
    isRequestHead src tag && isByte slot && isWord count && isWord check
  | .recipeDrop src tag slot => isRequestHead src tag && isByte slot
  | .panelAnnounce src tag id slot bad =>
    isRequestHead src tag && isWord id && isByte slot && isByteList bad
  | .panelStart src tag => isRequestHead src tag
  | .panelEject src tag => isRequestHead src tag
  | .panelAbort src tag id => isRequestHead src tag && isWord id
  | .cellHold src tag => isRequestHead src tag
  | .cellResume src tag => isRequestHead src tag
  | .cellReset src tag => isRequestHead src tag
  | .laneSet src tag lane slots _ fill blocked =>
    isRequestHead src tag && isByte lane && isByte slots && isByte fill && isByteList blocked
  | .laneRelease src tag lane => isRequestHead src tag && isByte lane
  | .laneClearJam src tag lane => isRequestHead src tag && isByte lane
  | .binEmptied src tag => isRequestHead src tag
  | .rackSet src tag position state cls wear =>
    isRequestHead src tag && isByte position && isByte state && isByte cls && isLong wear
  | .toolChange src tag head => isRequestHead src tag && isByte head
  | .paramSet src tag param value => isRequestHead src tag && isByte param && isLong value
  | .paramGet src tag param => isRequestHead src tag && isByte param
  | .tableRead src tag table selector start count =>
    isRequestHead src tag && isByte table && isByte selector && isWord start && isByte count
  | .noticeMask src tag level => isRequestHead src tag && isByte level
  | .noticeLevel src tag cls level => isRequestHead src tag && isByte cls && isByte level
  | .identify src tag => isRequestHead src tag
  | .validationEnd slot => slot < 8
  | .expansionComplete => true
  | .frameOnPortP _ => true
  | .frameOnPortN _ => true
  | .lossOfSignal _ => true
  | .symbolErrorRun _ => true
  | .portEntersUp _ => true
  | .trainingTimerExpiry _ => true
  | .stopInChange _ => true
  | .lineRawChange _ _ => true
  | .steadyTimerExpiry _ => true
  | .stuckTimerExpiry _ => true
  | .powerOn _ => true
  | .resetInAsserted => true
  | .resetInReleased _ => true
  | .takeTimeout _ => true
  | .locateTimeout => true
  | .headTimerExpiry _ => true
  | .toolTimeout _ => true
  | .pickTimerExpiry => true
  | .pickerOrderTimeout => true
  | .indexTimeout => true
  | .confirmWindowEnd => true
  | .silenceTimerExpiry => true
  | .contactLoss _ => true
  | .symbolReceived _ _ => true

end Sys2Proof
end

