-- ==== Sys2Proof/Certificates/Slice0/Obligations.lean ====
section
/-! DEFINITION. The statements about the part, for the provers. -/

open Sys2Proof Sys2Proof.Machine

/-! ### Steps and the request unit -/

/-- A step takes the command at the front of the queue and runs it on the state with the queue's rest. With no command
waiting, the part handles the request at the front of its own queue when the reply queue has room (R178), and
otherwise nothing changes. The second part is the model's reading of "in a later event" (notes/assumptions/2.md). -/
def Obligations.StepRunsFrontCommand : Prop :=
  (∀ (c : Instr) (rest : List Instr) (s : State), s.pending = c :: rest → step s = exec c { s with pending := rest }) ∧
  (∀ s : State, s.pending = [] → s.req.requests = [] ∨ s.replyRoom = false → step s = .next s) ∧
  (∀ (q : Request) (rest : List Request) (s : State), s.pending = [] → s.req.requests = q :: rest → s.replyRoom = true →
    step s = .next (handle q (s.setRequests rest)))

/-- How a request command meets the request unit, for each of the 22 requests: a part in reset or passive does not take it.
Else its request arrives as R177 states, "neither is taken as a repeat of the other" (R179), so also where an equal one waits:
it joins the queue, is answered QUEUE_FULL, or is dropped and counted. Then the front request is handled where the reply queue
has room (R178): this request where the queue was empty, else the oldest that waited. That the command holds its arrival and
one handling is the model's choice (notes/assumptions/1.md). -/
def Obligations.RequestCommandHandsOver : Prop :=
  ∀ (c : Instr) (r : Request) (s : State), requestOf c = some r →
    (s.serving = false → exec c s = .next s) ∧
    (s.serving = true → s.req.requests = [] → s.replyRoom = true → exec c s = .next (handle r s)) ∧
    (∀ q rest, s.serving = true → s.req.requests = q :: rest → s.req.requests.length < 4 → s.replyRoom = true →
      exec c s = .next (handle q (s.setRequests (rest ++ [r])))) ∧
    (s.serving = true → s.req.requests.length < 4 → s.replyRoom = false →
      exec c s = .next { s with req := { s.req with requests := s.req.requests ++ [r] } }) ∧
    (∀ q rest, s.serving = true → s.req.requests = q :: rest → 4 ≤ s.req.requests.length → s.replyRoom = true →
      let u := s.answer r.src r.tag r.body.kind .queueFull []
      (u.replyRoom = true → exec c s = .next (handle q (u.setRequests rest))) ∧
      (u.replyRoom = false → exec c s = .next u)) ∧
    (s.serving = true → 4 ≤ s.req.requests.length → s.replyRoom = false →
      exec c s = .next { s with req := { s.req with dropped := min 255 (s.req.dropped + 1) } })

/-- A request that is refused has no effect but its reply: the state it leaves is the state it found. BUSY is a
refusal for every request but CELL_RESUME, which is always accepted (R158). -/
def Obligations.RefusedRequestChangesNothing : Prop :=
  ∀ (r : Request) (s t : State) (c : Code) (d : List Byte), act r s = (t, some (c, d)) →
    (c ∈ [Code.badState, .notFound, .range, .queueFull, .tooLong, .storeFull, .notReady, .duplicate, .notClamped, .emptyQueue] ∨
      (c = .busy ∧ r.body ≠ .cellResume)) → t = s

/-! ### Laws every step keeps -/

/-- Every table keeps its size (R1, R107, R140, R150, R181, R190). -/
def Obligations.StepKeepsShape : Prop := ∀ s t : State, s.shape = true → step s = .next t → t.shape = true

/-- Every parameter stays inside its range, and LOAD_LOW below LOAD_HIGH "through every change" (R182, R183), where the
law of the bin holds, which bounds what REJECT_CAPACITY is raised to (R144, R183; StepKeepsCounts states that every step
keeps it). -/
def Obligations.StepKeepsParameters : Prop :=
  ∀ s t : State, s.binLaw = true → s.paramsInRange = true → s.loadOrdered = true → step s = .next t →
    t.paramsInRange = true ∧ t.loadOrdered = true

/-- The request queue holds at most 4 requests, the replies and the places promised are at most 8, and a place is
promised for each validation in flight (R176, R178). -/
def Obligations.StepKeepsReplyPlaces : Prop :=
  ∀ s t : State, s.queuesBounded = true → s.reservedLaw = true → step s = .next t →
    t.queuesBounded = true ∧ t.reservedLaw = true

/-- The counts keep their laws: the bin's filled count plus its reserved count never exceeds REJECT_CAPACITY (R144),
and the store total is the number of filled offsets summed over all slots (R1). -/
def Obligations.StepKeepsCounts : Prop :=
  ∀ s t : State, step s = .next t →
    (s.binLaw = true → t.binLaw = true) ∧ (s.storeLaw = true → t.storeLaw = true)

/-- Ring records keep their laws. A port has a rate in TRAINING and UP only, its timer runs in TRAINING and FAILED
only with that state's value, and its sync count and error run stay short of their thresholds (R162 to R164). A node's
sequence number stays a byte, its contact count at most 8, its fresh mark is set only with its latch, and no take
timer runs for an order that was taken (R169, R170, R172, R173). -/
def Obligations.StepKeepsRing : Prop :=
  ∀ s t : State, step s = .next t →
    (s.portsOk = true → t.portsOk = true) ∧ (s.nodesOk = true → t.nodesOk = true)

/-- A class with nothing pending has merge count 0 and no detail, a detail is one of its class, and merge counts,
levels and the mask stay in their ranges (R190 to R193). -/
def Obligations.StepKeepsNotices : Prop := ∀ s t : State, s.noticesOk = true → step s = .next t → t.noticesOk = true

/-- The reset state meets every law above. -/
def Obligations.ResetMeetsLaws : Prop :=
  State.reset.shape = true ∧ State.reset.paramsInRange = true ∧ State.reset.loadOrdered = true ∧
    State.reset.queuesBounded = true ∧ State.reset.reservedLaw = true ∧ State.reset.binLaw = true ∧
    State.reset.storeLaw = true ∧ State.reset.portsOk = true ∧ State.reset.noticesOk = true ∧ State.reset.nodesOk = true

/-! ### The hold state -/

/-- While the cell is HELD and stays HELD, a step leaves each node's slot with the order and sequence number it had, or
with an order that supersedes one outstanding (R156): STOP where a head cuts (R91, R95, R97), RETRACT where a PICK or a
RETRACT is outstanding (R127, R128), STAY where the service's early LIFT is out (R133), NONE where it withdraws a LOCATE
(R28, R29) or the step handles CELL_RESET (R148), or the slot of a part that starts or stands in reset (R154). It holds for
every command, and for the part's own request handled on an empty queue, or with a request that arrives
(notes/assumptions/1.md, notes/assumptions/2.md). -/
def Obligations.HeldWritesNoNewOrder : Prop :=
  ∀ (s t : State) (n : Node), step s = .next t → s.running = false → t.running = false →
    let handles (b : ReqBody) : Prop :=
      (∃ c rest r, s.pending = c :: rest ∧ requestOf c = some r ∧ s.req.requests = [] ∧ r.body = b) ∨
        ((s.pending = [] ∨ ∃ c rest r, s.pending = c :: rest ∧ requestOf c = some r) ∧
          ∃ q rest, s.req.requests = q :: rest ∧ q.body = b);
    ((t.node n).order = (s.node n).order ∧ (t.node n).seq = (s.node n).seq) ∨
      ((t.node n).order = .stop ∧ ∃ h : Head, n = h.node ∧ (s.head h).state = .cutting) ∨
      ((t.node n).order = .retract ∧ n = .picker ∧
        ∃ q, s.hand.picker.order = some (.pick, q) ∨ s.hand.picker.order = some (.retract, q)) ∨
      (n = .picker ∧ ∃ v, s.hand.service = some v ∧ v.early = .out ∧ (t.node n).order = .stay v.panel v.board) ∨
      ((t.node n).order = .none ∧
        ((n = .vision ∧ s.locator.active.state = .measuring) ∨
          ((n = .picker ∨ n = .elevator) ∧ handles .cellReset))) ∨
      (t.node n = NodeRec.reset ∧ ∃ c rest, s.pending = c :: rest ∧
        ((∃ a, c = .powerOn a) ∨ c = .resetInAsserted ∨ ∃ a, c = .resetInReleased a))

/-- "The cell enters RUN only through CELL_RESUME" (R156): a step that takes the cell from HELD to RUN handles a
CELL_RESUME, as the front command with no request queued or as the front request of the part's own queue, which is handled
with no command waiting or with a request that arrives (notes/assumptions/1.md, notes/assumptions/2.md), and it does so only when the cause set
that CELL_RESUME leaves is empty: STOP_IN released, or STOP not in the set, and no silence since the last good frame, or
SILENCE not in the set (R158). -/
def Obligations.OnlyResumeEntersRun : Prop :=
  ∀ s t : State, step s = .next t → s.running = false → t.running = true →
    ((∃ src tag rest, s.pending = .cellResume src tag :: rest ∧ s.req.requests = []) ∨
      ((s.pending = [] ∨ ∃ c rest r, s.pending = c :: rest ∧ requestOf c = some r) ∧
        ∃ q rest, s.req.requests = q :: rest ∧ q.body = .cellResume)) ∧
    (s.lines.causes.stop = true → s.lines.stopIn.cond = false) ∧
    (s.lines.causes.silence = true → s.ring.silentMark = false)


/-! ### Recipes -/

/-- The checks of RECIPE_LOAD, in order: the first that fails gives the reply, and nothing else changes (R8).
STORE_FULL counts only the target offsets that are unfilled, so a load that rewrites filled offsets is never refused
STORE_FULL. A slot refuses BUSY exactly when it is VALIDATING, or READY and IN_USE: named by an announced panel, or
being expanded from (R2). -/
def Obligations.RecipeLoadChecks : Prop :=
  ∀ (src tag slot offset count : Nat) (items : List LoadItem) (s : State), s.ready = true → s.recipes.slots.length = 8 →
    let refused (c : Code) := exec (.recipeLoad src tag slot offset count items) s = .next (s.answer src tag 1 c []);
    (∀ r, s.recipes.slots[slot]? = some r →
      (s.slotBusy slot = true ↔ r.mode = .validating ∨ (r.mode = .ready ∧
        ((∃ a ∈ s.tracker.announce, a.slot = slot) ∨
          ∃ p, s.tracker.active = some p ∧ p.expanding = true ∧ p.slot = slot)))) ∧
    (8 ≤ slot ∨ 512 ≤ offset ∨ count = 0 ∨ 12 < count → refused .range) ∧
    (∀ r, s.recipes.slots[slot]? = some r → offset < 512 → 0 < count → count ≤ 12 →
      (s.slotBusy slot = true → refused .busy) ∧
      (s.slotBusy slot = false → items.all loadItemOk = false → refused .range) ∧
      (s.slotBusy slot = false → items.all loadItemOk = true → items.length = count →
        (512 < offset + count → refused .tooLong) ∧
        (offset + count ≤ 512 → 2048 < s.recipes.total + unfilled r.items offset count → refused .storeFull))) ∧
    (∀ r, s.recipes.slots[slot]? = some r → offset + count ≤ 512 → r.items.length = 512 →
      unfilled r.items offset count = ((List.range count).filter fun j => r.items[offset + j]? == some none).length)

/-- An accepted RECIPE_LOAD (R8, R9) writes its items at consecutive offsets and nowhere else, raises the store total
by the number of those offsets that were unfilled, makes the slot LOADING, discards what validation found and keeps
the declared count; nothing else changes but the reply OK. -/
def Obligations.RecipeLoadStores : Prop :=
  ∀ (src tag slot offset : Nat) (items : List Item) (r : RecipeSlot) (s : State), s.ready = true →
    s.recipes.slots[slot]? = some r → r.items.length = 512 → items ≠ [] → items.length ≤ 12 →
    s.slotBusy slot = false → items.all itemOk = true → offset + items.length ≤ 512 →
    s.recipes.total + unfilled r.items offset items.length ≤ 2048 →
    ∃ u : RecipeSlot,
      exec (.recipeLoad src tag slot offset items.length (items.map LoadItem.known)) s =
        .next (({ s with recipes :=
          { slots := s.recipes.slots.set slot u, total := s.recipes.total + unfilled r.items offset items.length } }
            : State).answer src tag 1 .ok []) ∧
      u = { r with mode := .loading, items := u.items, boards := none, tabs := none, fids := none, result := none } ∧
      u.items.length = 512 ∧
      (∀ j, j < items.length → u.items[offset + j]? = some items[j]?) ∧
      (∀ j, j < offset ∨ offset + items.length ≤ j → u.items[j]? = r.items[j]?)

/-- RECIPE_COMMIT (R11) and RECIPE_DROP (R10): each check in its order, with the reply it gives and nothing else
changed. An accepted commit sets the declared count, discards what the last validation found, makes the slot
VALIDATING with the check held, and takes a reply place instead of replying (R178). An accepted drop makes every
offset unfilled, lowers the store total by the offsets the slot held, and makes the slot EMPTY with nothing else in
it. -/
def Obligations.RecipeCommitAndDrop : Prop :=
  ∀ (src tag slot : Nat) (s : State), s.ready = true → s.recipes.slots.length = 8 →
    let put (u : RecipeSlot) : RecipeStore := { s.recipes with slots := s.recipes.slots.set slot u };
    (∀ count check : Nat,
      let refused (c : Code) := exec (.recipeCommit src tag slot count check) s = .next (s.answer src tag 2 c []);
      (8 ≤ slot ∨ count = 0 ∨ 512 < count → refused .range) ∧
      (∀ r, s.recipes.slots[slot]? = some r → 0 < count → count ≤ 512 →
        (s.slotBusy slot = true → refused .busy) ∧
        (s.slotBusy slot = false → r.mode = .empty → refused .badState) ∧
        (s.slotBusy slot = false → r.mode ≠ .empty →
          exec (.recipeCommit src tag slot count check) s =
            .next { s with
              recipes := put
                { r with
                  mode := .validating, declared := some count, boards := none, tabs := none, fids := none, result := none,
                  validation := some { check := check, src := src, tag := tag } }
              req := { s.req with reserved := s.req.reserved + 1 } }))) ∧
    (let refused (c : Code) := exec (.recipeDrop src tag slot) s = .next (s.answer src tag 3 c []);
      (8 ≤ slot → refused .range) ∧
      (∀ r, s.recipes.slots[slot]? = some r →
        (s.slotBusy slot = true → refused .busy) ∧
        (s.slotBusy slot = false →
          exec (.recipeDrop src tag slot) s =
            .next (({ s with recipes :=
              { slots := s.recipes.slots.set slot
                  { mode := .empty, items := List.replicate 512 none, declared := none, boards := none, tabs := none,
                    fids := none, result := none, validation := none }
                total := s.recipes.total - r.items.countP Option.isSome } } : State).answer src tag 3 .ok []))))

/-- VALIDATION_END (R15): a validation that finds an error makes the slot FAULTY and replies with that code and its
detail; one that finds none makes it READY with the walk's counts and the fiducials present, and replies OK with the
counts. The reply takes the place held for it (R178). A slot that is not VALIDATING has none. Two clauses are the model's
choice: a READY slot's last result is OK with its detail absent (notes/assumptions/43.md), and its fiducial set is read
below the declared count (notes/assumptions/35.md). -/
def Obligations.ValidationEnds : Prop :=
  ∀ (slot : Nat) (r : RecipeSlot) (s : State), s.recipes.slots[slot]? = some r →
    let put (u : RecipeSlot) : RecipeStore := { s.recipes with slots := s.recipes.slots.set slot u };
    (r.mode ≠ .validating → exec (.validationEnd slot) s = .next s) ∧
    (∀ v, r.mode = .validating → r.validation = some v →
      (∀ code detail, r.validate = .inl (code, detail) →
        exec (.validationEnd slot) s =
          .next { s with
            recipes := put
              { r with mode := .faulty, result := some { code := code, detail := some detail }, validation := none }
            req := { s.req with
              reserved := s.req.reserved - 1
              replies := s.req.replies ++
                [{ dest := v.src, tag := v.tag, kind := 2, code := code, data := wordBytes detail }] } }) ∧
      (∀ w, r.validate = .inr w →
        exec (.validationEnd slot) s =
          .next { s with
            recipes := put
              { r with
                mode := .ready, boards := some w.boards.length, tabs := some w.tabs.length
                fids := some (fidSet (r.items.take (r.declared.getD 0)))
                result := some { code := .ok, detail := none }, validation := none }
            req := { s.req with
              reserved := s.req.reserved - 1
              replies := s.req.replies ++
                [{ dest := v.src, tag := v.tag, kind := 2, code := .ok,
                   data := byteOf w.boards.length :: wordBytes w.tabs.length }] } }))

/-- A recipe that validates without an error is whole and within every limit: no gap below the declared count and no
item at or above it, so that its extent is the declared count (R12), the check as given, every CLOSE with its OPEN and
every OPEN with its CLOSE, at most 4 deep where no EXIT_AFTER passes items over (R4, R13), the walk's stack empty at its
end, at most 96 boards and 384 tabs, every board with at most 12 tabs and a release tab, every point inside the recipe
space, F0 and F1 present once each and at least 50 mm apart (R4 to R7, R12 to R14). The items are in their ranges, as
every stored item is (R8, check 3). -/
def Obligations.ValidRecipeKeepsLimits : Prop :=
  ∀ (r : RecipeSlot) (w : Walk), (∀ i, some i ∈ r.items → itemOk i = true) → r.validate = .inr w →
    let opens (k : Nat) : Nat := (r.program.take k).countP fun i => match i with | some (.opn _ _ _) => true | _ => false
    let closes (k : Nat) : Nat := (r.program.take k).count (some .cls);
    (∀ j, j < r.declared.getD 0 → j < r.items.length → ∃ i, r.items[j]? = some (some i)) ∧
    (∀ (j : Nat) (i : Item), r.declared.getD 0 ≤ j → r.items[j]? ≠ some (some i)) ∧
    (∀ k, closes k ≤ opens k) ∧ opens r.program.length = closes r.program.length ∧
    ((∀ n, some (.exitAfter n) ∉ r.program) → ∀ k, opens k ≤ closes k + 4) ∧ w.stack = [] ∧
    r.validation.map Validation.check = some (itemCheck r.program) ∧
    w.boards.length ≤ 96 ∧ w.tabs.length ≤ 384 ∧
    (∀ b ∈ w.boards, b.tabs ≤ 12 ∧ b.release.isSome = true ∧ b.grip.absOk = true) ∧
    (∀ t ∈ w.tabs, t.start.absOk = true ∧ t.stop.absOk = true ∧ t.owner < w.boards.length ∧
      (∀ o, t.linked = some o → o < t.owner)) ∧
    ∃ o0 p0 o1 p1, fidAt r.program 0 = some (o0, p0) ∧ fidAt r.program 1 = some (o1, p1) ∧
      2500000000 ≤ (p1.sub p0).sq ∧ (((fids r.program).map fun q => q.2.1).Nodup)

/-! ### Panels -/

/-- The checks of PANEL_START (R44), PANEL_EJECT (R49) and PANEL_ABORT (R51), each in its order: the first that fails
gives the reply, and nothing else changes. -/
def Obligations.PanelRefusals : Prop :=
  ∀ (src tag : Nat) (s : State), s.ready = true →
    (let refused (c : Code) := exec (.panelStart src tag) s = .next (s.answer src tag 5 c []);
      (s.tracker.active.isSome = true → refused .busy) ∧
      (s.tracker.active = none → s.lines.clamp.cond = false → refused .notClamped) ∧
      (s.tracker.active = none → s.lines.clamp.cond = true → s.tracker.announce = [] → refused .emptyQueue)) ∧
    (let refused (c : Code) := exec (.panelEject src tag) s = .next (s.answer src tag 6 c []);
      (s.tracker.active = none → refused .badState) ∧
      (∀ p, s.tracker.active = some p →
        (p.state = .locating ∨ p.state = .cutting → refused .badState) ∧
        (p.state = .done ∨ p.state = .refused → s.tracker.closing.isSome = true → refused .busy))) ∧
    (∀ id : Nat,
      let refused (c : Code) := exec (.panelAbort src tag id) s = .next (s.answer src tag 7 c []);
      (s.idUsed id = false → refused .notFound) ∧
      ((∀ a ∈ s.tracker.announce, a.id ≠ id) →
        (∀ p, s.tracker.active = some p → p.id = id → p.state = .done ∨ p.state = .refused → refused .badState) ∧
        (∀ q, s.tracker.closing = some q → q.id = id → (∀ p, s.tracker.active = some p → p.id ≠ id) → refused .badState)))

/-- PANEL_ANNOUNCE (R42): the checks in order, the first that fails giving the reply; an announcement that passes
joins the back of the queue, its slot is IN_USE, and the reply is OK. An id is in use when an announced panel, the
active panel or the closing panel has it. A PANEL_ABORT of an announced panel withdraws it and is answered OK (R51).
Nothing else changes. -/
def Obligations.PanelAnnounceAndWithdraw : Prop :=
  ∀ (src tag id slot : Nat) (bad : List Nat) (s : State), s.ready = true → s.recipes.slots.length = 8 →
    let refused (c : Code) := exec (.panelAnnounce src tag id slot bad) s = .next (s.answer src tag 4 c [])
    let first := 8 ≤ slot ∨ 96 < bad.length ∨ (∃ i ∈ bad, 96 ≤ i) ∨ ¬ bad.Nodup
    let queued : State := { s with tracker := { s.tracker with
      announce := s.tracker.announce ++ [{ id := id, slot := slot, bad := bad }] } };
    (s.idUsed id = true ↔ (∃ a ∈ s.tracker.announce, a.id = id) ∨ (∃ p, s.tracker.active = some p ∧ p.id = id) ∨
      ∃ p, s.tracker.closing = some p ∧ p.id = id) ∧
    (first → refused .range) ∧
    (¬ first → 2 ≤ s.tracker.announce.length → refused .queueFull) ∧
    (¬ first → s.tracker.announce.length < 2 → ∀ r, s.recipes.slots[slot]? = some r →
      (r.mode ≠ .ready → refused .notReady) ∧
      (r.mode = .ready → s.idUsed id = true → refused .duplicate) ∧
      (r.mode = .ready → s.idUsed id = false → (∃ i ∈ bad, r.boards.getD 0 ≤ i) → refused .range) ∧
      (r.mode = .ready → s.idUsed id = false → (∀ i ∈ bad, i < r.boards.getD 0) →
        exec (.panelAnnounce src tag id slot bad) s = .next (queued.answer src tag 4 .ok []) ∧ queued.inUse slot = true)) ∧
    ((∃ a ∈ s.tracker.announce, a.id = id) →
      exec (.panelAbort src tag id) s =
        .next (({ s with tracker := { s.tracker with
          announce := s.tracker.announce.filter fun a => a.id != id } } : State).answer src tag 7 .ok []))

/-- An accepted PANEL_START (R44): the front announced panel becomes the active panel in LOCATING with its expansion
in flight, in the lower board half the closing panel does not hold, with a locator record in WAITING (R25). In RUN the
locator issues LOCATE with the search positions N + (FIXTURE_X, FIXTURE_Y) (R18, R26), or refuses the panel when the
vision node is OFFLINE or in FAULT, and the refusal waits for the expansion (R26, R45). The reply carries the id and
the slot. -/
def Obligations.PanelStartBegins : Prop :=
  ∀ (src tag : Nat) (a : Announce) (rest : List Announce) (r : RecipeSlot) (n0 n1 : Pt) (s : State), s.ready = true →
    s.tracker.active = none → s.lines.clamp.cond = true → s.tracker.announce = a :: rest →
    s.recipes.slots[a.slot]? = some r → r.nominal 0 = some n0 → r.nominal 1 = some n1 →
    let search (p : Pt) : Pt := ⟨s.param .fixtureX + p.x, s.param .fixtureY + p.y⟩
    let p : Panel :=
      { id := a.id, slot := a.slot, bad := a.bad, state := .locating, boardCount := r.boards.getD 0,
        tabCount := r.tabs.getD 0, half := if s.tracker.closing.map Panel.half = some .h0 then .h1 else .h0,
        expanding := true, pendingLoc := none, abort := none, stop := none,
        tally := { stacked := 0, binned := 0, retained := 0, lost := 0 } }
    let l : LocRec :=
      { LocRec.free with
        state := .waiting, panel := some a.id, wantF2 := (r.nominal 2).isSome, n0 := some n0, n1 := some n1,
        n2 := r.nominal 2, s0 := some (search n0), s1 := some (search n1), s2 := (r.nominal 2).map search }
    let t (p : Panel) (l : LocRec) : State :=
      { s with
        tracker := { s.tracker with announce := rest, active := some p }
        locator := { s.locator with active := l } }
    let ok (t : State) := exec (.panelStart src tag) s =
      .next (t.answer src tag 5 .ok (wordBytes a.id ++ [byteOf a.slot]));
    (s.running = false → ok (t p l)) ∧
    (s.running = true → s.visionState = .idle ∨ s.visionState = .busy →
      ok (writeOrder .vision (.locate a.id (search n0) (search n1) ((r.nominal 2).map search))
        (t p { l with state := .measuring }))) ∧
    (s.running = true → s.visionState = .offline ∨ s.visionState = .fault →
      ok (t { p with pendingLoc := some .visionFault } { l with state := .refused, outcome := some .visionFault }))

/-- An accepted PANEL_EJECT (R49): with no board IN_TRANSIT the panel closes (R50): PANEL_CLOSED carries its tally,
which becomes the last closed tally, and its record, board half, tabs and locator record are freed. With a board
IN_TRANSIT it becomes the closing panel and keeps them. -/
def Obligations.PanelEjectClosesOrMoves : Prop :=
  ∀ (src tag : Nat) (p : Panel) (s : State), s.ready = true → s.tracker.active = some p →
    p.state = .done ∨ p.state = .refused → s.tracker.closing = none →
    let ok (t : State) := exec (.panelEject src tag) s = .next (t.answer src tag 6 .ok []);
    ((∀ b ∈ s.boards .active, b.state ≠ .inTransit) →
      ok (raise (.panelClosed p.id p.tally)
        { s with
          tracker := { s.tracker with
            active := none
            half0 := if p.half = .h0 then [] else s.tracker.half0
            half1 := if p.half = .h1 then [] else s.tracker.half1
            lastTally := some { id := p.id, tally := p.tally } }
          disp := { s.disp with tabs := [] }
          locator := { s.locator with active := LocRec.free } })) ∧
    ((∃ b ∈ s.boards .active, b.state = .inTransit) →
      ok { s with
        tracker := { s.tracker with active := none, closing := some { p with state := .closing } }
        disp := { s.disp with tabs := [], closingTabs := s.disp.tabs }
        locator := { active := LocRec.free, closing := s.locator.active } })

/-- PANEL_ABORT of the active panel (R51). With an abort mark, or with a location refusal pending, it is answered OK
and changes nothing. Otherwise the mark and the stop reason become ABORTED, PANEL_STOPPED is raised, and the abort is
applied: a LOCATING panel whose expansion is in flight stays LOCATING, one whose expansion is complete becomes DONE
(R52), and the cuts of a CUTTING panel are stopped with cause ABORT (R53). The locator record of a LOCATING panel becomes
ABANDONED from WAITING, MEASURING and PASSED, and from MEASURING NONE withdraws the LOCATE (R29). What the operator set up is left alone. Where it
is applied, each board in ATTACHED, READY, GRIP_WAIT or GRIPPED is RETAINED, ABORTED, and counted, and every other keeps its
state (R52, R53). What retains a board: its state, the tally, the pick queue, its bin place, its tabs (R59, R60) and the
picker at it (R61, R128). And what makes one ready for picking, or retains it in place of that (R57, R58). -/
def Obligations.PanelAbortStopsPanel : Prop :=
  (∀ (src tag : Nat) (p : Panel) (s : State), s.ready = true → s.tracker.active = some p →
    (∀ a ∈ s.tracker.announce, a.id ≠ p.id) → p.state = .locating ∨ p.state = .cutting →
    let stays (b : BoardState) : Bool := !(b == .attached || b == .ready || b == .gripWait || b == .gripped);
    (p.abort.isSome = true ∨ (p.state = .locating ∧ p.pendingLoc.isSome = true) →
      exec (.panelAbort src tag p.id) s = .next (s.answer src tag 7 .ok [])) ∧
    (p.abort = none → p.state = .cutting ∨ p.pendingLoc = none →
      ∃ (t : State) (q : Panel), exec (.panelAbort src tag p.id) s = .next (t.answer src tag 7 .ok []) ∧
        t.setup = s.setup ∧ t.tracker.active = some q ∧ q.id = p.id ∧ q.abort = some .aborted ∧ q.stop = some .aborted ∧
        t.notice 6 = (s.notice 6).map (NoticeRec.raise (.panelStopped p.id .aborted)) ∧
        (p.state = .locating →
          let l := s.locator.active
          let vision := s.node .vision;
          (l.state = .measuring →
            t.locator.active = { l with state := .abandoned, timer := none } ∧
            t.node .vision = { vision with
              order := .none, seq := nextSeq vision.seq, taken := false, completed := false, takeTimer := none }) ∧
          (l.state = .waiting ∨ l.state = .passed →
            t.locator.active = { l with state := .abandoned } ∧ t.node .vision = vision) ∧
          (l.state ≠ .measuring → l.state ≠ .waiting → l.state ≠ .passed →
            t.locator.active = l ∧ t.node .vision = vision)) ∧
        (p.state = .locating → p.expanding = true → q.state = .locating) ∧
        (p.state = .locating → p.expanding = false → q.state = .done) ∧
        (p.state = .cutting → ∀ h, (s.head h).state = .cutting →
          (t.head h).state = .stopping ∧ (t.head h).cause = some .abort ∧ (t.node h.node).order = .stop) ∧
        (p.state = .cutting ∨ p.expanding = false →
          (∀ c, s.tracker.closing = some c → c.half ≠ p.half) →
          (∀ b ∈ s.tracker.pickQueue, s.boardState .active b = some .ready) →
          (t.half p.half).map Board.state =
            (s.half p.half).map (fun b => if stays b.state then b.state else .retained .aborted) ∧
          q.tally.retained = p.tally.retained + ((s.half p.half).filter fun b => !stays b.state).length))) ∧
  (∀ (b : Nat) (r : Board) (p : Panel) (why : RetainReason) (s : State), s.tracker.active = some p →
    (s.half p.half)[b]? = some r →
    let t := retain b why s
    let reached : Prop := r.state = .attached ∨ r.state = .ready ∨ r.state = .gripWait ∨ r.state = .gripped
    let placed : Nat := if r.bad = true ∧ r.dest = some .bin then 1 else 0;
    (¬ reached → t = s) ∧
    (reached →
      t.boardState .active b = some (.retained why) ∧
      t.tracker.active = some { p with tally := { p.tally with retained := p.tally.retained + 1 } } ∧
      t.tracker.pickQueue = s.tracker.pickQueue.filter (· != b) ∧
      (s.serves p.id b = false ∨ r.state = .attached ∨ r.state = .ready →
        t.hand = { s.hand with binReserved := s.hand.binReserved - placed }) ∧
      (∀ v, s.hand.service = some v → v.panel = p.id → v.board = b → r.state = .gripWait ∨ r.state = .gripped →
        t.hand.service = none ∧
        t.hand.binReserved = s.hand.binReserved - placed - (if v.contingency then 1 else 0) ∧
        (∀ k i, v.dest = .lane k i → s.slot k i = some .reserved → t.slot k i = some .empty) ∧
        (∀ k n, s.hand.picker.order = some (k, n) → k = .pick ∨ k = .retract →
          (t.node .picker).order = .retract ∧ (t.node .picker).seq = nextSeq (s.node .picker).seq ∧
            t.hand.picker.order = some (.retract, nextSeq (s.node .picker).seq)) ∧
        (s.hand.picker.order = none → s.running = true →
          (t.node .picker).order = .retract ∧ t.hand.picker.order = some (.retract, nextSeq (s.node .picker).seq)) ∧
        (s.hand.picker.order = none → s.running = false →
          t.node .picker = s.node .picker ∧ t.hand.picker = { s.hand.picker with retractDue := true })) ∧
      (∀ i x, s.tab i = some x →
        let skipped : Prop := (x.kind = .frame ∧ x.owner = b) ∨ (x.kind = .shared ∧ ∃ o, x.linked = some o ∧
          ((x.owner = b ∧ (o = b ∨ s.isRetained o = true)) ∨ (o = b ∧ s.isRetained x.owner = true)));
        (¬ skipped → t.tab i = some x) ∧
        (skipped → x.state = .pending ∨ x.state = .queued ∨ x.state = .held →
          (t.tab i).map Tab.state = some .skipped ∧ i ∉ (t.head .a).queue ∧ i ∉ (t.head .b).queue ∧
            i ∉ t.disp.unassigned) ∧
        (skipped → x.state = .ordered → t.tab i = some { x with standing := true }) ∧
        (skipped → x.state = .done ∨ x.state = .skipped ∨ x.state = .failed → t.tab i = some x)))) ∧
  (∀ (b : Nat) (r : Board) (p : Panel) (s : State), s.tracker.active = some p → (s.half p.half)[b]? = some r →
    let t := testReady b s
    let ready : Prop := r.state = .attached ∧ r.openTabs = 1 ∧ (s.tab r.releaseTab).map Tab.state = some .held
    let held : Nat := s.hand.binFilled + s.hand.binReserved
    let full (n : Nat) : Option NoticeRec := (s.notice 11).map (NoticeRec.raise (.binFull s.hand.binFilled n));
    (¬ ready → t = s) ∧
    (ready → p.abort.isSome = true → t.boardState .active b = some (.retained .aborted)) ∧
    (ready → p.abort = none → r.bad = false →
      t.board .active b = some { r with state := .ready } ∧ t.tracker.pickQueue = s.tracker.pickQueue ++ [b] ∧
        t.hand = s.hand) ∧
    (ready → p.abort = none → r.bad = true →
      (held < s.param .rejectCapacity →
        t.board .active b = some { r with state := .ready, dest := some .bin } ∧
        t.tracker.pickQueue = s.tracker.pickQueue ++ [b] ∧
        t.hand = { s.hand with binReserved := s.hand.binReserved + 1 } ∧
        t.notice 11 = if held + 1 = s.param .rejectCapacity then full (s.hand.binReserved + 1) else s.notice 11) ∧
      (s.param .rejectCapacity ≤ held →
        t.boardState .active b = some (.retained .binFull) ∧ (r.dest = none → t.notice 11 = full s.hand.binReserved))))

/-- EXPANSION_COMPLETE (R21): with no expansion in flight nothing happens. Otherwise the panel's board half and tab table
are the walk's boards and tabs, each entry as R19 and R20 write it, and the expansion ends; then, in the same event, a
pending abort makes the panel DONE (R52), a pending refusal makes it REFUSED (R45, R46), a PASSED location maps the tables
and lets it enter CUTTING (R38, R47), from which it may reach DONE (R48), and otherwise it waits in LOCATING, its tables as
written; that clause asks for event marks that are clear, as they are between events (notes/assumptions/10.md). In each case
every entry keeps what the walk gave it. At cutting entry every point is mapped by the panel's transform and tested against
the envelope (R38, R39), no tab is left PENDING, a release tab that no head's queue held before is HELD or SKIPPED, any
other is QUEUED, ORDERED or SKIPPED (R78), and no board that is ready for picking is left ATTACHED (R47, R57). -/
def Obligations.ExpansionCompletes : Prop :=
  ∀ s : State,
    (s.expanding = false → exec .expansionComplete s = .next s) ∧
    (∀ (p : Panel) (r : RecipeSlot) (w : Walk), s.tracker.active = some p → p.expanding = true →
      s.recipes.slots[p.slot]? = some r → r.walk = .whole w →
      let boards : List Board := w.boards.zipIdx.map fun x =>
        { index := x.2, variant := x.1.variant, bad := p.bad.contains x.2, state := .attached, openTabs := x.1.tabs,
          releaseTab := x.1.release.getD 0, nominal := x.1.grip, corrected := none, unreachable := false, attempts := 0,
          dest := none }
      let tabs : List Tab := w.tabs.zipIdx.map fun x =>
        { index := x.2, kind := x.1.kind, owner := x.1.owner, linked := x.1.linked,
          release := (w.boards[x.1.owner]?.bind WBoard.release) == some x.2, nomStart := x.1.start, nomEnd := x.1.stop,
          corStart := none, corEnd := none, unreachable := false, len := x.1.len, feed := x.1.feed, attempts := 0,
          state := .pending, skipReason := none, standing := false, place := none, cutHead := none, settlement := none,
          lastCut := none, peak := none }
      let written : State := { s with
        tracker := { s.tracker with
          active := some { p with expanding := false }
          half0 := if p.half = .h0 then boards else s.tracker.half0
          half1 := if p.half = .h1 then boards else s.tracker.half1 }
        disp := { s.disp with tabs := tabs } }
      let follows : State :=
        if p.abort.isSome then applyAbort written
        else match p.pendingLoc with
          | some o => enterRefused o written
          | none => if s.locator.active.state = .passed then locationPassed (retainMarked (mapTables written)) else written
      ∃ (t : State) (q : Panel), exec .expansionComplete s = .next t ∧ t = settle follows ∧ t.setup = s.setup ∧
        t.tracker.active = some q ∧ q.id = p.id ∧ q.expanding = false ∧
        t.disp.tabs.map (fun x => (x.index, x.kind, x.owner, x.linked, x.release, x.nomStart, x.nomEnd, x.len, x.feed)) =
          tabs.map (fun x => (x.index, x.kind, x.owner, x.linked, x.release, x.nomStart, x.nomEnd, x.len, x.feed)) ∧
        ((∀ c, s.tracker.closing = some c → c.half ≠ p.half) →
          (t.half p.half).map (fun b => (b.index, b.variant, b.bad, b.releaseTab, b.nominal)) =
            boards.map (fun b => (b.index, b.variant, b.bad, b.releaseTab, b.nominal))) ∧
        (p.state = .locating →
          (p.abort.isSome = true → q.state = .done) ∧
          (∀ o, p.abort = none → p.pendingLoc = some o → q.state = .refused ∧ q.stop = some o.stopReason) ∧
          (p.abort = none → p.pendingLoc = none → s.locator.active.state ≠ .passed → s.ev = EventMarks.clear →
            q = { p with expanding := false } ∧ t.disp.tabs = tabs ∧
            ((∀ c, s.tracker.closing = some c → c.half ≠ p.half) → t.half p.half = boards))) ∧
        (p.abort = none → p.pendingLoc = none → s.locator.active.state = .passed →
          let inside (u : Pt) : Prop := 0 ≤ u.x ∧ u.x ≤ 720000 ∧ 0 ≤ u.y ∧ u.y ≤ 620000
          let map := s.locator.active.map;
          (q.state = .cutting ∨ q.state = .done) ∧ t.locator.active.state = .mapped ∧
          (∀ x ∈ t.disp.tabs, x.corStart = some (map x.nomStart) ∧ x.corEnd = some (map x.nomEnd) ∧
            (x.unreachable = false ↔ inside (map x.nomStart) ∧ inside (map x.nomEnd)) ∧
            (x.release = true → x.index ∉ (s.head .a).queue → x.index ∉ (s.head .b).queue →
              x.state = .held ∨ x.state = .skipped) ∧
            (x.release = false → x.state = .queued ∨ x.state = .ordered ∨ x.state = .skipped)) ∧
          ((∀ c, s.tracker.closing = some c → c.half ≠ p.half) →
            ∀ b ∈ t.half p.half, b.corrected = some (map b.nominal) ∧ (b.unreachable = false ↔ inside (map b.nominal)) ∧
              ¬ (b.state = .attached ∧ b.openTabs = 1 ∧ (t.tab b.releaseTab).map Tab.state = some .held))))

/-! ### The cell's own requests -/

/-- What adds a hold cause (R155). CELL_HOLD adds REQUEST and is answered OK in RUN and in HELD alike; sent again it
is answered OK and changes nothing further (R157). A running silence timer's expiry sets the silent mark, adds SILENCE
and raises RING_SILENCE, and the timer runs no more (R174); one that does not run has no expiry. A cause added in RUN
sends STOP with cause HOLD to every CUTTING head (R155). -/
def Obligations.HoldCausesAdded : Prop :=
  ∀ (src tag : Nat) (s : State),
    (s.ready = true →
      exec (.cellHold src tag) s =
        .next ((s.withCauses { s.lines.causes with request := true }).answer src tag 8 .ok [])) ∧
    (s.ready = true → s.lines.causes.request = true →
      exec (.cellHold src tag) s = .next (s.answer src tag 8 .ok [])) ∧
    (s.ring.silenceTimer = none → exec .silenceTimerExpiry s = .next s) ∧
    (s.ring.silenceTimer.isSome = true →
      exec .silenceTimerExpiry s = .next (raise .ringSilence
        (({ s with ring := { s.ring with silenceTimer := none, silentMark := true } } : State).withCauses
          { s.lines.causes with silence := true })))

/-- CELL_RESUME (R158): the latch of each node whose latest status, taken since its fault, reports READY is cleared,
and every other latch stays; REQUEST leaves the cause set, STOP where STOP_IN is released, SILENCE where a good frame
was processed since the last report; the reply is OK when the set is then empty, and else BUSY with the causes that
remain. The owner of a cleared latch leaves FAULT (step 1): a head for IDLE, or for CHANGING or NO_TOOL with no bit mounted or
a change due (R74, R109), the picker and the elevator for IDLE (R121, R120), from which RUN may give them work in the event;
a head whose latch stays set stays in FAULT. Where that takes the cell from HELD to RUN, the event writes the orders that waited (R156): the LOCATE of a WAITING
record whose vision node is in service, or the refusal of one whose node is not (R26), the TOOL of a change AWAITING_RUN
(R111), a withdrawal RETRACT (R128), the INDEX of a service whose index state is WAITING with the elevator IDLE (R146), the
LIFT of a FREE board (R130), the PLACE of a torn board, or of one IN_TRANSIT whose destination is ready (R134, R136); then
it tries selection and runs the arbiter (R123, R88). A closing panel has a board IN_TRANSIT, as R50 keeps it. That
PLACE waits for a service without a confirm window is the model's choice (notes/assumptions/66.md). -/
def Obligations.CellResumeClears : Prop :=
  ∀ (src tag : Nat) (s : State), s.ready = true →
    let left : Causes :=
      { request := false, stop := s.lines.causes.stop && s.lines.stopIn.cond,
        silence := s.lines.causes.silence && s.ring.silentMark }
    let stays (n : Node) : Prop := (s.node n).latch = none
    let clears (n : Node) : Prop := (s.node n).fresh = true ∧ (s.node n).faultReported = some false
    ∃ t : State, exec (.cellResume src tag) s = .next t ∧
      t.setup = { s.setup with
        lines := { s.lines with causes := left }
        req := s.req.reply { dest := src, tag := tag, kind := 9, code := if left.isEmpty then .ok else .busy,
                             data := if left.isEmpty then [] else [left.byte] } } ∧
      (t.running = left.isEmpty) ∧
      (∀ n : Node, (t.node n).latch = if clears n then none else (s.node n).latch) ∧
      (∀ h : Head, (s.head h).state = .fault →
        let cleared : Prop := (s.node h.node).latch.isSome = true ∧ clears h.node;
        (cleared → (t.head h).reason = none ∧
          (s.mounted h = none ∨ s.due h = true → (t.head h).state = .changing ∨ (t.head h).state = .noTool) ∧
          (s.mounted h ≠ none → s.due h = false → (t.head h).state = .idle ∨
            (t.running = true ∧ ((t.head h).state = .cutting ∨ (t.head h).state = .parking)))) ∧
        (¬ cleared → (t.head h).state = .fault ∧ (t.head h).reason = (s.head h).reason)) ∧
      (s.hand.picker.state = .fault → (s.node .picker).latch.isSome = true → clears .picker →
        t.hand.picker.reason = none ∧
          (t.hand.picker.state = .idle ∨ (t.running = true ∧ t.hand.picker.state = .serving))) ∧
      (s.hand.elevator.state = .fault → (s.node .elevator).latch.isSome = true → clears .elevator →
        t.hand.elevator.reason = none ∧
          (t.hand.elevator.state = .idle ∨ (t.running = true ∧ t.hand.elevator.state = .indexing))) ∧
      (s.running = false → left.isEmpty = true →
        (∃ u : State, u.running = true ∧
          t = (clearMarks (runArbiter (trySelect u))).answer src tag 9 .ok []) ∧
        (s.locator.active.state = .waiting →
          if (s.node .vision).present = true ∧ (stays .vision ∨ clears .vision) then
            t.locator.active = { s.locator.active with state := .measuring } ∧
            (t.node .vision).seq = nextSeq (s.node .vision).seq ∧
            (t.node .vision).order = .locate (s.locator.active.panel.getD 0) (s.locator.active.s0.getD ⟨0, 0⟩)
              (s.locator.active.s1.getD ⟨0, 0⟩) (if s.locator.active.wantF2 then s.locator.active.s2 else none)
          else t.locator.active.state = .refused ∧ t.locator.active.outcome = some .visionFault) ∧
        (∀ (h : Head) (c : Change) (f : Nat) (p : RackPos), s.change h = some c → c.fetch = some f → c.state = .awaitingRun →
          s.spindle.rack[f]? = some p → (s.head h).state = .changing → stays h.node → h ∉ s.spindle.waiting →
          t.change h = some { c with state := .out } ∧ (t.node h.node).seq = nextSeq (s.node h.node).seq ∧
            (t.node h.node).order = .tool f p.cls (if c.returned then none else c.outgoing)) ∧
        (s.hand.picker.state = .serving → s.hand.picker.order = none → stays .picker → s.hand.picker.retractDue = true →
          (t.node .picker).order = .retract ∧ t.hand.picker.retractDue = false ∧
            t.hand.picker.order = some (.retract, nextSeq (s.node .picker).seq)) ∧
        (∀ (v : Service) (ref : PanelRef), s.hand.service = some v → s.locator.active.state ≠ .waiting →
          (∀ c, s.tracker.closing = some c → ∃ b ∈ s.half c.half, b.state = .inTransit) →
          s.panelRef v.panel = some ref →
          (∀ k i, v.dest = .lane k i → v.index = .waiting →
            (s.hand.elevator.state = .idle ∧ stays .elevator) ∨
              (s.hand.elevator.state = .fault ∧ (s.node .elevator).latch.isSome = true ∧ clears .elevator) →
            (t.node .elevator).order = .index k i ∧ (t.node .elevator).seq = nextSeq (s.node .elevator).seq ∧
              t.hand.elevator.state = .indexing ∧ t.hand.service.map Service.index = some .out) ∧
          (s.hand.picker.state = .serving → s.hand.picker.order = none → stays .picker → s.hand.picker.retractDue = false →
            (s.boardState ref v.board = some .free → v.early = .none →
              (t.node .picker).order = .lift v.panel v.board) ∧
            (v.window = none → v.torn = true → (s.boardState ref v.board ≠ some .free ∨ v.early ≠ .none) →
              (t.node .picker).order = .place v.panel v.board .bin) ∧
            (v.window = none → v.torn = false → s.boardState ref v.board = some .inTransit →
              (v.dest = .bin → (t.node .picker).order = .place v.panel v.board .bin) ∧
              (∀ k i l, v.dest = .lane k i → v.index = .done → s.hand.lanes[k]? = some l → l.state ≠ .jammed →
                (t.node .picker).order = .place v.panel v.board (.lane k i) ∧
                  t.hand.service.bind Service.window = some .opened)))))

/-- CELL_RESET (R189): what each block frees and what it keeps. Panels, boards, tabs, queues and locator records are
freed with no notice and no tally (R69, R97, R29); a CUTTING head is stopped with cause RESET (R97); NONE goes to the
picker, the elevator and a measuring vision node (R148, R29); RESERVED slots become SUSPECT and are counted, an ACTIVE lane
with no EMPTY slot left is then FULL, and the bin's reserved count is 0 (R148); every validation ends LOADING, answered BAD_STATE (R16); pending notices clear, levels and mask stay
(R190); the cell is HELD. Rack, bits, changes, parameters, lines, ports, last tally and total are kept. Two clauses are the
model's: the cause RESET of a head that cuts while the cell is in RUN, where entering HELD would give HOLD
(notes/assumptions/12.md), and NONE to the picker and the elevator in every state of theirs (notes/assumptions/40.md); a third,
that a withdrawal RETRACT which waits for RUN is dropped, is its choice too (notes/assumptions/64.md). -/
def Obligations.CellResetFreesWork : Prop :=
  ∀ (src tag : Nat) (s : State), s.ready = true → s.recipes.slots.length = 8 →
    let take := s.param .takeTimeout
    let ending (r : RecipeSlot) : Bool := r.mode == .validating && r.validation.isSome
    let ended (r : RecipeSlot) : RecipeSlot := if ending r then { r with mode := .loading, validation := none } else r
    let lane (l : Lane) : Lane :=
      if SlotState.reserved ∈ l.slots then
        { l with
          slots := l.slots.map fun x => if x = .reserved then .suspect else x
          suspect := l.suspect + l.slots.count .reserved
          state := if l.state = .active ∧ SlotState.empty ∉ l.slots then .full else l.state }
      else l
    let head (r : HeadRec) : HeadRec :=
      { r with
        state := if r.state = .cutting then .stopping else r.state
        cause := if r.state = .cutting then some .reset else r.cause, tab := none, queue := [] }
    let slot (h : Head) : NodeRec :=
      if (s.head h).state = .cutting then (s.node h.node).write .stop take else s.node h.node
    ∃ t : State, exec (.cellReset src tag) s = .next t ∧
      t.tracker = { s.tracker with announce := [], active := none, closing := none, half0 := [], half1 := [], pickQueue := [] } ∧
      t.disp = { s.disp with
        tabs := [], closingTabs := [], unassigned := [], heads := ⟨head s.disp.heads.a, head s.disp.heads.b⟩ } ∧
      t.locator = ⟨LocRec.free, LocRec.free⟩ ∧ t.spindle = s.spindle ∧
      t.ring = { s.ring with nodes :=
        { headA := slot .a, headB := slot .b, picker := (s.node .picker).write .none take,
          elevator := (s.node .elevator).write .none take,
          vision := if s.locator.active.state = .measuring then (s.node .vision).write .none take else s.node .vision } } ∧
      t.hand = { s.hand with
        picker := { state := if s.hand.picker.state = .serving then .idle else s.hand.picker.state,
                    reason := s.hand.picker.reason, order := none, timer := none, retractDue := false }
        elevator := { state := if s.hand.elevator.state = .indexing then .idle else s.hand.elevator.state,
                      reason := s.hand.elevator.reason, order := none, timer := none }
        service := none, lanes := s.hand.lanes.map lane, binReserved := 0 } ∧
      t.lines = { s.lines with causes := { s.lines.causes with request := true } } ∧
      t.notices = { s.notices with recs := s.notices.recs.map fun r => { r with pending := false, merge := 0, detail := none } } ∧
      t.recipes = { s.recipes with slots := s.recipes.slots.map ended } ∧
      t.req = { s.req with
        reserved := s.req.reserved - (s.recipes.slots.filter ending).length
        replies := s.req.replies ++
          ((s.recipes.slots.filter ending).filterMap fun r => r.validation.map fun v =>
            ({ dest := v.src, tag := v.tag, kind := 2, code := .badState, data := [] } : Reply)) ++
          [{ dest := src, tag := tag, kind := 10, code := .ok, data := [] }] } ∧
      t.pending = s.pending ∧ t.free = s.free

/-! ### The magazine, the bin and the rack -/

/-- LANE_SET (R141), LANE_RELEASE and LANE_CLEAR_JAM (R142) and BIN_EMPTIED (R144). A request that fails a check gets
the reply of the first one, and nothing else changes. LANE_SET rebuilds the lane from its operands: blocked slots
BLOCKED and the others EMPTY, counts 0, ACTIVE, or FULL when every slot is BLOCKED, or JAMMED when its sensor is
stuck. LANE_RELEASE makes it ABSENT. LANE_CLEAR_JAM makes a JAMMED lane ACTIVE, or FULL with no EMPTY and no RESERVED
slot, and tries a waiting PLACE (R136). BIN_EMPTIED sets the filled count to 0. All but LANE_RELEASE then try selection
(R123). Two clauses are the model's: JAMMED where LANE_SET would give FULL and the sensor is stuck
(notes/assumptions/39.md), and what a released lane holds: the fill order BOTTOM_UP, the empty set of variants, and its
discarded counts as 0 (notes/assumptions/33.md). -/
def Obligations.LaneAndBinRequests : Prop :=
  ∀ (src tag lane : Nat) (s : State), s.ready = true → s.hand.lanes.length = 4 →
    let put (m : Lane) : State := { s with hand := { s.hand with lanes := s.hand.lanes.set lane m } };
    (∀ (slots : Nat) (variants : BitVec 16) (fill : Nat) (blocked : List Nat),
      let asked := exec (.laneSet src tag lane slots variants fill blocked) s
      let wrong := 4 ≤ lane ∨ slots = 0 ∨ 80 < slots ∨ 2 ≤ fill ∨ (∃ i ∈ blocked, slots ≤ i) ∨ ¬ blocked.Nodup;
      (wrong → asked = .next (s.answer src tag 11 .range [])) ∧
      (∀ l q, ¬ wrong → s.hand.lanes[lane]? = some l → s.lines.lanes[lane]? = some q →
        (SlotState.reserved ∈ l.slots → asked = .next (s.answer src tag 11 .busy [])) ∧
        (SlotState.reserved ∉ l.slots →
          asked = .next ((trySelect (put
            { state := if q.stuck then .jammed else if blocked.length = slots then .full else .active,
              slots := (List.range slots).map fun i => if i ∈ blocked then .blocked else .empty,
              variants := variants, fill := if fill = 0 then .bottomUp else .topDown, filled := 0, suspect := 0 })).answer
            src tag 11 .ok [])))) ∧
    (4 ≤ lane →
      exec (.laneRelease src tag lane) s = .next (s.answer src tag 12 .range []) ∧
      exec (.laneClearJam src tag lane) s = .next (s.answer src tag 13 .range [])) ∧
    (∀ l, s.hand.lanes[lane]? = some l →
      (SlotState.reserved ∈ l.slots → exec (.laneRelease src tag lane) s = .next (s.answer src tag 12 .busy [])) ∧
      (SlotState.reserved ∉ l.slots →
        exec (.laneRelease src tag lane) s =
          .next ((put { state := .absent, slots := [], variants := 0, fill := .bottomUp, filled := 0, suspect := 0 }).answer
            src tag 12 .ok [])) ∧
      (l.state ≠ .jammed → exec (.laneClearJam src tag lane) s = .next (s.answer src tag 13 .badState [])) ∧
      (∀ q, l.state = .jammed → s.lines.lanes[lane]? = some q →
        (q.line.cond = true → exec (.laneClearJam src tag lane) s = .next (s.answer src tag 13 .busy [])) ∧
        (q.line.cond = false →
          exec (.laneClearJam src tag lane) s =
            .next ((trySelect (writePlace (put
              { l with state := if SlotState.empty ∈ l.slots ∨ SlotState.reserved ∈ l.slots then .active else .full }))).answer
              src tag 13 .ok [])))) ∧
    exec (.binEmptied src tag) s =
      .next ((trySelect { s with hand := { s.hand with binFilled := 0 } }).answer src tag 14 .ok [])

/-- The choice of a lane and slot for a good board (R124): the lane is ACTIVE, takes the variant and has an EMPTY
slot; no other such lane has fewer EMPTY slots, or as few and a lower number; the slot is the lane's lowest EMPTY one
in BOTTOM_UP and its highest in TOP_DOWN. With no such lane there is no choice. -/
def Obligations.SlotChoice : Prop :=
  ∀ (v : Nat) (s : State),
    let takes (l : Lane) : Prop := l.state = .active ∧ l.variants.getLsbD v = true ∧ SlotState.empty ∈ l.slots
    let empties (l : Lane) : Nat := l.slots.count .empty;
    (∀ d, s.chooseSlot v = some d → ∃ (k i : Nat) (l : Lane), d = .lane k i ∧ s.hand.lanes[k]? = some l ∧ takes l ∧
      l.slots[i]? = some .empty ∧
      (l.fill = .bottomUp → ∀ j, j < i → l.slots[j]? ≠ some .empty) ∧
      (l.fill = .topDown → ∀ j, i < j → l.slots[j]? ≠ some .empty) ∧
      (∀ (m : Nat) (l' : Lane), s.hand.lanes[m]? = some l' → takes l' →
        empties l < empties l' ∨ (empties l = empties l' ∧ k ≤ m))) ∧
    (s.chooseSlot v = none → ∀ (m : Nat) (l' : Lane), s.hand.lanes[m]? = some l' → ¬ takes l')

/-- Pick selection (R123 to R125), tried for a FREE service with the picker IDLE in RUN: the frontmost board of the pick
queue with a destination is taken. A bad-marked board goes to the bin and needs no elevator. A good board, with the
elevator in service, reserves the slot chosen for its variant, and INDEX is written. PICK is written with the board's
variant, corrected grip point and the panel's angle, and the board is GRIP_WAIT and out of the queue. The good boards ahead
of it in the queue, which have no destination, are passed and keep their places; each passed because no lane qualifies
raises MAGAZINE_FULL with its variant (R124), and where every board is passed nothing else changes. That a board passed
with the elevator out of service raises nothing is the model's choice (notes/assumptions/49.md). -/
def Obligations.SelectionTakesFrontBoard : Prop :=
  ∀ (p : Panel) (passed : List Nat) (angle : Int) (s : State),
    s.hand.service = none → s.hand.picker.state = .idle → s.running = true →
    s.tracker.active = some p → s.locator.active.angle = some angle →
    let up : Prop := s.hand.elevator.state = .idle ∨ s.hand.elevator.state = .indexing;
    (∀ c ∈ passed, ∃ q, (s.half p.half)[c]? = some q ∧ q.bad = false ∧ (up → s.chooseSlot q.variant = none)) →
    let variants : List Nat := passed.filterMap fun c => (s.half p.half)[c]?.map Board.variant
    let full (t : State) : Prop :=
      (up → t.notice 10 =
        (s.notice 10).map fun n => variants.foldl (fun n v => NoticeRec.raise (.magazineFull v) n) n) ∧
      (¬ up → t.notice 10 = s.notice 10);
    (s.tracker.pickQueue = passed →
      full (trySelect s) ∧ ∃ recs, trySelect s = { s with notices := { s.notices with recs := recs } }) ∧
    (∀ (b : Nat) (rest : List Nat) (r : Board) (g : Pt), s.tracker.pickQueue = passed ++ b :: rest →
    (s.half p.half)[b]? = some r → r.corrected = some g →
    let order : Order := .pick p.id b r.variant g angle
    let served (t : State) (d : Dest) (index : IndexState) : Prop :=
      t.hand.service = some { panel := p.id, board := b, dest := d, index := index, early := .none, contingency := false,
                              torn := false, window := none } ∧
        t.node .picker = (s.node .picker).write order (s.param .takeTimeout) ∧
        t.hand.picker = { s.hand.picker with
          state := .serving, order := some (.pick, nextSeq (s.node .picker).seq), timer := none } ∧
        t.tracker.pickQueue = (passed ++ b :: rest).filter (· != b) ∧ full t ∧
        t.boards .active = (s.boards .active).set b { r with state := .gripWait, dest := some d } ∧ t.setup = s.setup;
    (r.bad = true → served (trySelect s) .bin .notNeeded ∧ (trySelect s).hand.lanes = s.hand.lanes) ∧
    (∀ k i, r.bad = false → up → s.chooseSlot r.variant = some (.lane k i) →
      served (trySelect s) (.lane k i) .out ∧
      (trySelect s).hand.lanes = s.hand.lanes.modify k (fun l => { l with slots := l.slots.set i .reserved }) ∧
      (trySelect s).node .elevator = (s.node .elevator).write (.index k i) (s.param .takeTimeout)))

/-- RACK_SET (R108): the checks in order, the first that fails giving the reply with nothing else changed; otherwise
the position becomes SPARE with the class and the wear given, a wear above 1,048,575 stored as that and answered
CLAMPED, or EMPTY. Where a SPARE with wear below BIT_LIFE results, the NO_TOOL waiting list is served in the event
(R115); it may engage the position and changes nothing else of it. That the CLAMPED reply carries no data is the model's
choice (notes/assumptions/54.md). -/
def Obligations.RackSetWrites : Prop :=
  ∀ (src tag position state cls wear : Nat) (s : State), s.ready = true → s.spindle.rack.length = 8 →
    let asked := exec (.rackSet src tag position state cls wear) s
    let put (q : RackPos) : State := { s with spindle := { s.spindle with rack := s.spindle.rack.set position q } }
    let spare : RackPos :=
      { mode := .spare, head := none, brokenMark := false, engaged := none, cls := cls, wear := min 1048575 wear, cuts := 0 }
    let served : State := settle (serveList (put spare))
    let code : Code := if 1048575 < wear then .clamped else .ok;
    (8 ≤ position ∨ 2 ≤ state ∨ 4 ≤ cls → asked = .next (s.answer src tag 15 .range [])) ∧
    (∀ p, s.spindle.rack[position]? = some p → state < 2 → cls < 4 →
      (p.mode = .mounted ∨ p.engaged.isSome = true → asked = .next (s.answer src tag 15 .busy [])) ∧
      (p.mode ≠ .mounted → p.engaged = none →
        (state = 0 →
          asked = .next ((put { mode := .empty, head := none, brokenMark := false, engaged := none, cls := 0, wear := 0,
                                cuts := 0 }).answer src tag 15 .ok [])) ∧
        (state = 1 → s.param .bitLife ≤ min 1048575 wear → asked = .next ((put spare).answer src tag 15 code [])) ∧
        (state = 1 → min 1048575 wear < s.param .bitLife →
          asked = .next (served.answer src tag 15 code []) ∧ served.setup = s.setup ∧
            (s.spindle.waiting = [] → serveList (put spare) = put spare) ∧
            ∃ e, served.spindle.rack[position]? = some { spare with engaged := e })))

/-- TOOL_CHANGE (R109): refused RANGE for a head that is neither A nor B and BAD_STATE in OFFLINE and FAULT; in
CUTTING, STOPPING and PARKING the change is due; in CHANGING and NO_TOOL nothing changes; in IDLE the change is due
and begins at once (R110): with a candidate the head is CHANGING with the chosen position engaged, its TOOL written in
RUN and waiting in HELD (R111); without one it is NO_TOOL, at the back of the waiting list, and NO_TOOL is raised. The TOOL names the position, its class
and the outgoing position. That a change record without a fetch position holds the order state AWAITING_RUN is the model's
choice (notes/assumptions/46.md). -/
def Obligations.ToolChangeBegins : Prop :=
  ∀ (src tag : Nat) (h : Head) (s : State), s.ready = true →
    let due : PerHead Bool := s.spindle.due.set h true
    let ok (t : State) := exec (.toolChange src tag (headNum h)) s = .next (t.answer src tag 16 .ok [])
    let c : Change := { outgoing := s.mounted h, returned := false, fetch := none, state := .awaitingRun, timer := none };
    (∀ head : Nat, 2 ≤ head → exec (.toolChange src tag head) s = .next (s.answer src tag 16 .range [])) ∧
    ((s.head h).state = .offline ∨ (s.head h).state = .fault →
      exec (.toolChange src tag (headNum h)) s = .next (s.answer src tag 16 .badState [])) ∧
    ((s.head h).state = .cutting ∨ (s.head h).state = .stopping ∨ (s.head h).state = .parking →
      ok { s with spindle := { s.spindle with due := due } }) ∧
    ((s.head h).state = .changing ∨ (s.head h).state = .noTool → ok s) ∧
    (∀ i, (s.head h).state = .idle → s.chooseBit h c = some i →
      ∃ t : State, ok t ∧ t.setup = s.setup ∧ (t.head h).state = .changing ∧ t.spindle.due = due ∧
        t.change h = some { c with fetch := some i, state := if s.running then .out else .awaitingRun } ∧
        (t.rackAt i).map RackPos.engaged = some (some h) ∧
        (s.running = true → ∀ p, s.rackAt i = some p → (t.node h.node).order = .tool i p.cls (s.mounted h)) ∧
        (s.running = false → t.node h.node = s.node h.node)) ∧
    ((s.head h).state = .idle → s.chooseBit h c = none → h ∉ s.spindle.waiting →
      ∃ t : State, ok t ∧ t.setup = s.setup ∧ (t.head h).state = .noTool ∧ t.spindle.due = due ∧ t.change h = some c ∧
        t.spindle.waiting = s.spindle.waiting ++ [h] ∧
        t.notice 9 = (s.notice 9).map (NoticeRec.raise (.noTool h)))

/-- The choice of bit (R110): a chosen position is SPARE, below BIT_LIFE, without an engagement and not the change's
outgoing one. When the other head is in service with a class and a candidate of that class exists, the chosen one is
of that class. Among those it has the least wear, and no equal of a lower number. With no candidate there is no
choice. -/
def Obligations.BitChoice : Prop :=
  ∀ (h : Head) (c : Change) (s : State),
    let fit (i : Nat) (p : RackPos) : Prop :=
      p.mode = .spare ∧ p.wear < s.param .bitLife ∧ p.engaged = none ∧ c.outgoing ≠ some i
    let preferred (p : RackPos) : Prop := s.inService h.other = true ∧ s.headClass h.other = some p.cls;
    (s.chooseBit h c = none → ∀ i p, s.spindle.rack[i]? = some p → ¬ fit i p) ∧
    (∀ i, s.chooseBit h c = some i → ∃ p, s.spindle.rack[i]? = some p ∧ fit i p ∧
      ∀ j q, s.spindle.rack[j]? = some q → fit j q →
        (preferred q → preferred p) ∧
        ((preferred p → preferred q) → p.wear < q.wear ∨ (p.wear = q.wear ∧ i ≤ j)))

/-! ### Parameters, tables, notices and identity -/

/-- PARAM_SET (R182, R183): a number outside 0..41 is refused RANGE; an idle-only parameter while a panel lives BUSY;
a LEAD_HEAD above 1 RANGE. Any other value is brought into the parameter's range and then past the cross-relation
clamps, and stored; the reply carries what was stored, CLAMPED when that is not the value given. Only a raised
BIT_LIFE starts work (R184). That a refusal carries no data is the model's choice (notes/assumptions/17.md). -/
def Obligations.ParamSetStores : Prop :=
  ∀ (src tag n value : Nat) (s : State), s.ready = true →
    let refused (c : Code) := exec (.paramSet src tag n value) s = .next (s.answer src tag 17 c [])
    let lives : Prop := s.tracker.active.isSome = true ∨ s.tracker.closing.isSome = true;
    (42 ≤ n → refused .range) ∧
    (∀ row, paramTable[n]? = some row →
      (row.idleOnly = true → lives → refused .busy) ∧
      (¬ lives → row.name = .leadHead → 1 < value → refused .range) ∧
      ((row.idleOnly = true → ¬ lives) → (row.name = .leadHead → value ≤ 1) →
        let v := max row.lo (min row.hi value)
        let stored : Nat :=
          if row.name = .loadLow then min v (s.param .loadHigh - 1)
          else if row.name = .loadHigh then max v (s.param .loadLow + 1)
          else if row.name = .rejectCapacity then max v (s.hand.binFilled + s.hand.binReserved)
          else v
        let code : Code := if stored = value then .ok else .clamped
        let data := byteOf n :: longBytes stored
        ∃ t : State, exec (.paramSet src tag n value) s = .next (t.answer src tag 17 code data) ∧
          t.setup = { s.setup with req := { s.req with params := s.req.params.set n stored } } ∧
          (row.name ≠ .bitLife ∨ stored ≤ s.param .bitLife →
            t = { s with req := { s.req with params := s.req.params.set n stored } })))

/-- PARAM_GET (R185): refused RANGE outside 0..41; otherwise OK with the parameter and its stored value. It is served
in every state, and changes nothing but the reply queue. That a refusal carries no data is the model's choice
(notes/assumptions/17.md). -/
def Obligations.ParamGetReturnsValue : Prop :=
  ∀ (src tag n : Nat) (s : State), s.req.params.length = 42 →
    (42 ≤ n →
      act { src := src, tag := tag, body := .paramGet n } s = (s, some (.range, [])) ∧
      (s.ready = true → exec (.paramGet src tag n) s = .next (s.answer src tag 18 .range []))) ∧
    (∀ v, s.req.params[n]? = some v →
      act { src := src, tag := tag, body := .paramGet n } s = (s, some (.ok, byteOf n :: longBytes v)) ∧
      (s.ready = true → exec (.paramGet src tag n) s = .next (s.answer src tag 18 .ok (byteOf n :: longBytes v))))

/-- TABLE_READ (R186, R187): RANGE for a table or selector outside its values or a start above 512, NOT_FOUND for a
panel that does not exist; otherwise the reply carries the table, the selector, start, the table's length, the number
of entries and the entries: a run of the table's entries from start, at most the count and at most 16, in a body of at
most 240 bytes, and stopping short of that only at the end of the table or at an entry that no longer fits; CLAMPED
when the count was above 16. The length is the one R186 gives the table. Only a read that meets a CLOSING confirm window
draws a free value, which it shows as at most the window's time; any other read changes nothing but the reply queue. The
model's choices in it: a refusal carries no data (notes/assumptions/17.md), RANGE is tested before NOT_FOUND
(notes/assumptions/31.md), and the window's remaining time is a free value (notes/assumptions/16.md). -/
def Obligations.TableReadReturnsEntries : Prop :=
  ∀ (src tag table selector start count : Nat) (s : State), s.ready = true → s.recipes.slots.length = 8 → count < 256 →
    let refused (c : Code) := exec (.tableRead src tag table selector start count) s = .next (s.answer src tag 19 c []);
    (9 ≤ table ∨ 512 < start → refused .range) ∧
    (table = 0 → 8 ≤ selector → refused .range) ∧
    (table = 1 ∨ table = 2 → 2 ≤ selector → refused .range) ∧
    (table = 1 ∨ table = 2 → start ≤ 512 → selector = 0 → s.tracker.active = none → refused .notFound) ∧
    (table = 1 ∨ table = 2 → start ≤ 512 → selector = 1 → s.tracker.closing = none → refused .notFound) ∧
    (∀ entries, tableOf table selector s.windowLeft s = .inr entries → start ≤ 512 →
      ∃ es : List (List Byte),
        exec (.tableRead src tag table selector start count) s =
          .next ((if table = 7 then s.drawn else s).answer src tag 19 (if 16 < count then .clamped else .ok)
            ([byteOf table, byteOf selector] ++ wordBytes start ++ wordBytes entries.length ++ [byteOf es.length] ++
              es.flatten)) ∧
        es <+: entries.drop start ∧ es.length ≤ min count 16 ∧ 10 + es.flatten.length ≤ 240 ∧
        (es.length < min count 16 → ∀ e, (entries.drop start)[es.length]? = some e →
          240 < 10 + es.flatten.length + e.length) ∧
        (match table with
          | 0 => ∃ r, s.recipes.slots[selector]? = some r ∧ entries.length = 1 + r.items.length
          | 1 => ∃ p, (if selector = 0 then s.tracker.active else s.tracker.closing) = some p ∧
              entries.length = 1 + p.boardCount
          | 2 => ∃ p, (if selector = 0 then s.tracker.active else s.tracker.closing) = some p ∧
              entries.length = 1 + p.tabCount
          | 3 => entries.length = (s.head .a).queue.length
          | 4 => entries.length = (s.head .b).queue.length
          | 5 => entries.length = s.disp.unassigned.length
          | 6 => entries.length = s.tracker.pickQueue.length
          | 7 => entries.length = 1 + s.hand.lanes.length
          | _ => entries.length = 1 + s.spindle.rack.length)) ∧
    (s.drawn = s ∨ (s.drawn = { s with free := s.free + 1 } ∧
      ∃ v ms left, s.hand.service = some v ∧ v.window = some (.closing ms) ∧ s.windowLeft = some left ∧ left ≤ ms))

/-- NOTICE_MASK and NOTICE_LEVEL (R193): a level or a class outside its range is refused RANGE and changes nothing;
otherwise the mask, or the class's level, takes the level, and the reply is OK; pending flags, merge counts and
details stay. A pending class brought up to the mask is a candidate at the next selection. -/
def Obligations.NoticeRequestsSetLevels : Prop :=
  ∀ (src tag cls level : Nat) (s : State), s.ready = true → s.notices.recs.length = 20 →
    (4 < level → exec (.noticeMask src tag level) s = .next (s.answer src tag 20 .range [])) ∧
    (level ≤ 4 → exec (.noticeMask src tag level) s =
      .next (({ s with notices := { s.notices with mask := level } } : State).answer src tag 20 .ok [])) ∧
    (19 < cls ∨ 3 < level → exec (.noticeLevel src tag cls level) s = .next (s.answer src tag 21 .range [])) ∧
    (∀ r, cls ≤ 19 → level ≤ 3 → s.notices.recs[cls]? = some r →
      exec (.noticeLevel src tag cls level) s =
        .next (({ s with notices := { s.notices with recs := s.notices.recs.set cls { r with level := level } } }
          : State).answer src tag 21 .ok [])) ∧
    (∀ (i : Nat) (r : NoticeRec), s.notices.recs[i]? = some r → r.pending = true →
      (level ≤ r.level → chooseNotice { s.notices with mask := level } ≠ none) ∧
      (s.notices.mask ≤ level → chooseNotice { s.notices with recs := s.notices.recs.set i { r with level := level } } ≠ none))

/-- IDENTIFY (R188): answered OK in every state with the vendor code 2,417, the part code 4,120, the revision 3 and
the strap address; a passive part answers none (R165). -/
def Obligations.IdentifyAnswers : Prop :=
  ∀ (src tag : Nat) (s : State),
    let data : List Byte := wordBytes 2417 ++ wordBytes 4120 ++ [3, byteOf s.lines.strap];
    act { src := src, tag := tag, body := .identify } s = (s, some (.ok, data)) ∧
    (s.ready = true → exec (.identify src tag) s = .next (s.answer src tag 22 .ok data)) ∧
    (s.lines.strap = 0 ∨ s.lines.strap = 63 → exec (.identify src tag) s = .next s)

/-- The notice chosen for a frame (R192): a pending class whose level is at or above the mask, with the highest level
among those, and of equal levels the lowest class; with no such class none is chosen. -/
def Obligations.NoticeChoice : Prop :=
  ∀ u : NoticeUnit,
    let candidate (r : NoticeRec) : Prop := r.pending = true ∧ u.mask ≤ r.level;
    (chooseNotice u = none → ∀ (i : Nat) (r : NoticeRec), u.recs[i]? = some r → ¬ candidate r) ∧
    (∀ i r, chooseNotice u = some (i, r) → u.recs[i]? = some r ∧ candidate r ∧
      ∀ (j : Nat) (q : NoticeRec), u.recs[j]? = some q → candidate q →
        q.level < r.level ∨ (q.level = r.level ∧ i ≤ j))

/-! ### The ring -/

/-- The check sequence over bytes followed by their own check is 0 (R196): the check a good frame carries verifies. -/
def Obligations.CheckVerifies : Prop := ∀ l : List Byte, checkSeq (l ++ wordBytes (checkSeq l).toNat) = 0

/-- How the part reads what the ring carries. Every layout item with operands that fit their fields has one encoding, which
reads back as that item with the bytes behind it left over (R198). A request's body is its tag and then the operands of its
kind in their forms, bytes behind the last one passed over (R195, 10.6); a body that ends before its last operand, or inside
an item, reads as one that is answered RANGE and changes nothing (R179); a kind byte or a TAB form byte that names no item ends
a load's items with one that no load accepts (R198). A done result is read against the order's kind, and a code that is not
valid for it is FAULT; a status body shorter than 14 bytes for a head, 31 for the vision node and 6 for the picker and the
elevator is not read, and else its fields are those of 10.4, a load sample above 4,095 read as 4,095 (R197). Three points
of it are the model's. That reading of a load's items stops at a byte that names nothing, whatever follows it, and that a body
which ends inside an item is RANGE before every other check, is its reading of R8, R179 and R198 (notes/assumptions/34.md).
LANE_SET's slot count is one byte (notes/assumptions/55.md). The tag of a body without a byte is a value handed in, which the
part leaves free (notes/assumptions/15.md). -/
def Obligations.ItemEncodingReadsBack : Prop :=
  (∀ (i : Item) (rest : List Byte), i.fits = true → readItem (encodeItem i ++ rest) = .item i rest) ∧
  (∀ (src kind : Nat) (spare : Byte),
    readRequest src kind spare [] = { src := src, tag := spare.toNat, body := .malformed kind } ∧
    ∀ s : State, act (readRequest src kind spare []) s = (s, some (.range, []))) ∧
  (∀ (src : Nat) (spare tag : Byte) (rest : List Byte),
    let word (a b : Byte) : Nat := 256 * a.toNat + b.toNat
    let long (a b c d : Byte) : Nat := 65536 * word a b + word c d
    let nats (l : List Byte) : List Nat := l.map BitVec.toNat
    let read (kind : Nat) (bs : List Byte) (body : ReqBody) : Prop :=
      readRequest src kind spare (tag :: bs) = { src := src, tag := tag.toNat, body := body }
    let needs (kind n : Nat) : Prop := rest.length < n → read kind rest (.malformed kind);
    (∀ (kind : Nat) (s : State), act { src := src, tag := tag.toNat, body := .malformed kind } s = (s, some (.range, []))) ∧
    (needs 2 5 ∧ ∀ a b c d e, read 2 (a :: b :: c :: d :: e :: rest) (.recipeCommit a.toNat (word b c) (word d e))) ∧
    (needs 3 1 ∧ ∀ a, read 3 (a :: rest) (.recipeDrop a.toNat)) ∧
    (needs 4 4 ∧ ∀ a b c n,
      (rest.length < n.toNat → read 4 (a :: b :: c :: n :: rest) (.malformed 4)) ∧
      (n.toNat ≤ rest.length →
        read 4 (a :: b :: c :: n :: rest) (.panelAnnounce (word a b) c.toNat (nats (rest.take n.toNat))))) ∧
    read 5 rest .panelStart ∧ read 6 rest .panelEject ∧
    (needs 7 2 ∧ ∀ a b, read 7 (a :: b :: rest) (.panelAbort (word a b))) ∧
    read 8 rest .cellHold ∧ read 9 rest .cellResume ∧ read 10 rest .cellReset ∧
    (needs 11 6 ∧ ∀ a b c d e n,
      (rest.length < n.toNat → read 11 (a :: b :: c :: d :: e :: n :: rest) (.malformed 11)) ∧
      (n.toNat ≤ rest.length → read 11 (a :: b :: c :: d :: e :: n :: rest)
        (.laneSet a.toNat b.toNat (BitVec.ofNat 16 (word c d)) e.toNat (nats (rest.take n.toNat))))) ∧
    (needs 12 1 ∧ ∀ a, read 12 (a :: rest) (.laneRelease a.toNat)) ∧
    (needs 13 1 ∧ ∀ a, read 13 (a :: rest) (.laneClearJam a.toNat)) ∧
    read 14 rest .binEmptied ∧
    (needs 15 7 ∧ ∀ a b c d e f g,
      read 15 (a :: b :: c :: d :: e :: f :: g :: rest) (.rackSet a.toNat b.toNat c.toNat (long d e f g))) ∧
    (needs 16 1 ∧ ∀ a, read 16 (a :: rest) (.toolChange a.toNat)) ∧
    (needs 17 5 ∧ ∀ a b c d e, read 17 (a :: b :: c :: d :: e :: rest) (.paramSet a.toNat (long b c d e))) ∧
    (needs 18 1 ∧ ∀ a, read 18 (a :: rest) (.paramGet a.toNat)) ∧
    (needs 19 5 ∧ ∀ a b c d e,
      read 19 (a :: b :: c :: d :: e :: rest) (.tableRead a.toNat b.toNat (word c d) e.toNat)) ∧
    (needs 20 1 ∧ ∀ a, read 20 (a :: rest) (.noticeMask a.toNat)) ∧
    (needs 21 2 ∧ ∀ a b, read 21 (a :: b :: rest) (.noticeLevel a.toNat b.toNat)) ∧
    read 22 rest .identify ∧
    (needs 1 4 ∧ ∀ (a b c n : Byte) (items : List Item), (∀ i ∈ items, i.fits = true) →
      let load (more : List Byte) : List Byte := a :: b :: c :: n :: (items.flatMap encodeItem ++ more)
      let unknown (more : List Byte) : Prop := read 1 (load more)
        (.recipeLoad a.toNat (word b c) n.toNat (items.map LoadItem.known ++ [.unknown]));
      (items.length = n.toNat →
        read 1 (load rest) (.recipeLoad a.toNat (word b c) n.toNat (items.map LoadItem.known))) ∧
      (items.length < n.toNat →
        (∀ (i : Item) (part : List Byte), i.fits = true → part <+: encodeItem i → part ≠ encodeItem i →
          read 1 (load part) (.malformed 1)) ∧
        (∀ k : Byte, k = 0 ∨ 6 < k.toNat → unknown (k :: rest)) ∧
        (∀ f : Byte, 3 < f.toNat → 12 ≤ rest.length → unknown (3 :: f :: rest))))) ∧
  (∀ (o : Order) (code : Nat),
    readResult o code =
      if code = 0 ∧ o.kind ∈ [1, 3, 4, 6, 7, 9, 10] then .ok
      else if code = 2 ∧ o.kind = 2 then .stopped
      else if code = 3 ∧ o.kind = 2 then .alreadyDone
      else if code = 4 ∧ o.kind = 4 then .noBit
      else if code = 5 ∧ o.kind = 5 then .gripped
      else if code = 6 ∧ o.kind = 5 then .missed
      else if code = 7 ∧ o.kind ∈ [7, 9] then .dropped
      else if code = 8 ∧ o.kind = 8 then .held
      else if code = 9 ∧ o.kind = 8 then .alreadyLifted
      else if code = 10 ∧ o.kind = 11 then .found
      else if code = 11 ∧ o.kind = 11 then .notFound
      else .fault) ∧
  (∀ (n : Node) (b : List Byte),
    let least : Nat := match n with
      | .headA => 14
      | .headB => 14
      | .picker => 6
      | .elevator => 6
      | .vision => 31
    let byte (i : Nat) : Nat := (b.getD i 0).toNat
    let word (i : Nat) : Nat := 256 * byte i + byte (i + 1)
    let coord (i : Nat) : Int := (BitVec.ofNat 32 (65536 * word i + word (i + 2))).toInt;
    (b.length < least → readStatus n b = none) ∧
    (least ≤ b.length → ∃ st, readStatus n b = some st ∧ (st.faulty = false ↔ byte 0 = 0) ∧ st.taken = byte 1 ∧
      st.done = byte 2 ∧ st.code = byte 3 ∧ st.data = word 4 ∧
      (n = .headA ∨ n = .headB → st.x = coord 6 ∧ st.remaining = word 10 ∧ st.load = min 4095 (word 12)) ∧
      (n = .vision → st.missing = b.getD 6 0 ∧ st.m0 = ⟨coord 7, coord 11⟩ ∧ st.m1 = ⟨coord 15, coord 19⟩ ∧
        st.m2 = ⟨coord 23, coord 27⟩)))

/-- A frame that is not taken (R165, R166): what arrives on a port that is not UP is not received; a bad frame, and
any frame at a passive part, leaves port P's way as received, out of port N when N is UP and else back out of P, with
no other effect; a frame from port N goes out of port P as received, or is discarded when P is not UP. -/
def Obligations.FramesForwardedUntouched : Prop :=
  ∀ (bytes : List Byte) (s : State),
    let sent (q : Port) : State := { s with ring := { s.ring with sent := some { port := q, bytes := bytes } } }
    let way : Port := if s.ring.portN.state = .up then .n else .p;
    (s.ring.portP.state ≠ .up → exec (.frameOnPortP bytes) s = .next s) ∧
    (s.ring.portP.state = .up → s.lines.strap = 0 ∨ s.lines.strap = 63 ∨ readFrame bytes = none →
      exec (.frameOnPortP bytes) s = .next (sent way)) ∧
    (s.ring.portN.state = .up → s.ring.portP.state = .up → exec (.frameOnPortN bytes) s = .next (sent .p)) ∧
    (s.ring.portN.state ≠ .up ∨ s.ring.portP.state ≠ .up → exec (.frameOnPortN bytes) s = .next s)

/-- "A good frame leaves the part good" (R196), and what the part writes into it (R168). Its records stand in the frame that
leaves, followed by the part's own, in at most 1,536 bytes, with a check that verifies, out of port N when N is UP and else
back out of P (R165). The part's own are the leading ones of its records in their order of priority, each with the strap
address as its source: the standing orders of the five nodes, the cell status, the replies from the oldest on, the notices
chosen up to NOTICES_PER_FRAME (R168, R192); only where the next one would not fit do they end before the last. What is
written leaves the part, and nothing else changes at the insertion. The silence watch restarts (R174). The frame's requests,
from another address to the strap address or to 63, arrive in frame order: each is queued, answered QUEUE_FULL or dropped and
counted (R167, R177). Of the other records the first NODE_STATUS record of a source is taken, for each node with that address
that can read it, and the rest is passed over (R167). Then the contact watch counts each PRESENT node without a record, which
at 8 with a clear latch is CONTACT_LOSS (R173). The cell status record is the 29 bytes of 10.7 (R194, R199). The queued replies
are short enough for a record, as every reply the part makes is, the node addresses are addresses, and a request's body holds
its tag. The model's choices in it: the code numbers of the vision node's states (notes/assumptions/13.md), a status record too
short for a node counts as the first of its source (notes/assumptions/24.md), the orders in which nodes that share an address
take a record and in which the contact watch counts (notes/assumptions/50.md, notes/assumptions/51.md). -/
def Obligations.GoodFrameLeavesGood : Prop :=
  (∀ (bytes : List Byte) (l : List Rec) (s : State), s.ring.portP.state = .up → s.passive = false → s.lines.strap < 64 →
    (∀ r ∈ s.req.replies, r.dest < 64 ∧ r.data.length ≤ 237) → (∀ n, s.address n < 64) → readFrame bytes = some l →
    let asks (r : Rec) : Bool := decide (1 ≤ r.kind ∧ r.kind ≤ 22 ∧ r.src ≤ 63 ∧ r.src ≠ s.lines.strap ∧
      (r.dest = s.lines.strap ∨ r.dest = 63))
    let arrives (u : ReqUnit) (r : Rec) : ReqUnit :=
      let q := readRequest r.src r.kind 0 r.body
      if u.requests.length < 4 then { u with requests := u.requests ++ [q] }
      else if u.replies.length + u.reserved < 8 then
        u.reply { dest := r.src, tag := q.tag, kind := r.kind, code := .queueFull, data := [] }
      else { u with dropped := min 255 (u.dropped + 1) };
    (∀ r ∈ l, asks r = true → r.body ≠ []) →
    let g := goodFrame l s
    let due := g.ownRecords
    ∃ (own : List Rec) (out : List Byte),
      exec (.frameOnPortP bytes) s = .next { g with
        ring := { g.ring with sent := some { port := if s.ring.portN.state = .up then .n else .p, bytes := out } }
        req := { g.req with replies := g.req.replies.drop (own.length - 6) }
        notices := g.notices.sent (own.length - 6 - g.req.replies.length) } ∧
      readFrame out = some (l ++ own) ∧ out.take 2 = bytes.take 2 ∧
      own <+: due ∧ out.length = bytes.length + recordSpace own ∧ out.length ≤ 1536 ∧
      (∀ r, due[own.length]? = some r → 1536 < out.length + 4 + r.body.length) ∧
      g.ring.armed = true ∧ g.ring.silentMark = false ∧ g.ring.silenceTimer = some (s.param .silenceMs) ∧
      g.req = (l.filter asks).foldl arrives s.req ∧ g.recipes = s.recipes ∧ g.lines = s.lines ∧ g.pending = s.pending ∧
      g.free = s.free) ∧
  (∀ (l : List Rec) (s : State),
    let k := l.foldl takeRecord { s := s, seen := [], heard := [] }
    let t := restartSilence ((Node.all.filter fun n => !k.heard.contains n).foldl countAbsent k.s);
    ¬ (t.ev.left.a = true ∧ t.ev.left.b = true ∧ t.inService .a = false ∧ t.inService .b = false) →
      goodFrame l s = settle t) ∧
  (∀ (k : Taking) (r : Rec),
    let strange : Prop := 63 < r.dest ∨ 63 < r.src ∨ r.src = k.s.lines.strap;
    (strange ∨ (r.kind ≠ 64 ∧ (r.kind = 0 ∨ 22 < r.kind ∨ (r.dest ≠ k.s.lines.strap ∧ r.dest ≠ 63))) ∨
      (r.kind = 64 ∧ r.src ∈ k.seen) → takeRecord k r = k) ∧
    (¬ strange → r.kind = 64 → r.src ∉ k.seen →
      takeRecord k r = (Node.all.filter fun n => k.s.address n == r.src).foldl
        (fun k n => match readStatus n r.body with
          | some st => { k with s := statusTaken n st k.s, heard := n :: k.heard }
          | none => k)
        { k with seen := r.src :: k.seen })) ∧
  (∀ (n : Node) (s : State),
    let r := s.node n;
    (r.present = false → countAbsent s n = s) ∧
    (r.present = true → r.contact < 7 ∨ r.latch.isSome = true →
      countAbsent s n = s.setNode n { r with contact := min 8 (r.contact + 1) }) ∧
    (r.present = true → 7 ≤ r.contact → r.latch = none → exec (.contactLoss n) s = .next (settle (countAbsent s n)))) ∧
  (∀ s : State,
    let b (n : Nat) : Byte := BitVec.ofNat 8 n
    let w (n : Nat) : List Byte := [b (n / 256), b n]
    let vision : Nat :=
      if (s.node .vision).present = false then 0
      else if (s.node .vision).latch.isSome then 1
      else if (s.node .vision).order.kind = Order.kind (.locate 0 ⟨0, 0⟩ ⟨0, 0⟩ none) ∧ (s.node .vision).completed = false then 2
      else 3
    let pending : Nat := ((List.range s.notices.recs.length).map fun i =>
      if (s.notices.recs[i]?.map NoticeRec.pending) = some true then 2 ^ i else 0).sum
    (cellStatus s).length = 29 ∧
    cellStatus s =
      [b (if s.running then 0 else 1),
        b ((if s.lines.causes.request then 1 else 0) + (if s.lines.causes.stop then 2 else 0) +
          (if s.lines.causes.silence then 4 else 0))] ++
      (match s.tracker.active with
        | some p => b p.state.num :: w p.id
        | none => [255, 0, 0]) ++
      (match s.tracker.closing with
        | some p => 1 :: w p.id
        | none => [0, 0, 0]) ++
      [b (s.head .a).state.num, b (s.head .b).state.num, b s.hand.picker.state.num, b s.hand.elevator.state.num,
        b vision, b (if s.disp.paired then 1 else 0), b (pending / 65536), b (pending / 256), b pending,
        b s.req.requests.length, b s.req.dropped,
        b (s.param .rejectCapacity - (s.hand.binFilled + s.hand.binReserved))] ++
      w s.tracker.totalStacked ++
      (match s.tracker.lastTally with
        | some t => 1 :: (w t.id ++ [b t.tally.stacked, b t.tally.binned, b t.tally.retained, b t.tally.lost])
        | none => [0, 0, 0, 0, 0, 0, 0]))

/-- Status records. An order is taken once (R170): a record that reports the current sequence number taken, with the taken
mark clear, sets the mark and stops the take timer, and the owner starts the order's completion interval with the value in
force: CUT_TIMEOUT for a CUT or a PARK, and for a STOP where the head timer does not run yet (R89, R91, R96), TOOL_TIMEOUT
(R111), GRIP_TIMEOUT, LIFT_TIMEOUT or PLACE_TIMEOUT (R119), INDEX_TIMEOUT (R120), LOCATE_TIMEOUT (R28); any other record
changes nothing here. An order is completed once, in the same way (R171): its owner gets the result read against its kind. A
record goes through its six steps in order, its completion before its fault (R172): a first status makes the node PRESENT and
takes its owner out of OFFLINE, to FAULT with reason STATUS or into service; the contact count is 0; a latch that was set
keeps its reason with the fresh mark set; the reported condition is stored; and where it is FAULT and the latch is clear, the
latch is set with reason STATUS and the owner acts: a head, the picker and the elevator are in FAULT with that reason and
their notice is raised (R74, R121, R120), a cut in hand is settled (R93 to R95; cutSettled) and a served board too (R145, R66, R83;
servedSettled), and a LOCATE in hand is withdrawn and its record REFUSED, VISION_FAULT (R28). That
a withdrawal RETRACT which waits for RUN is dropped when the picker enters FAULT, that a board which that fault makes RETAINED is
withdrawn with no RETRACT, that a release tab goes ahead of the settled tab, and that attempts rise past 5 are the model's
choices (notes/assumptions/48.md, notes/assumptions/57.md, notes/assumptions/56.md, notes/assumptions/58.md). Through cutSettled
two more are: a torn board's service has destination BIN (notes/assumptions/21.md), and what a pending settlement holds: the
head, whether the cut ended by STOPPED, and how (notes/assumptions/20.md). That a first status with FAULT raises no notice is the model's choice too
(notes/assumptions/11.md), and is not stated. -/
def Obligations.OrderTakenOnce : Prop :=
  (∀ (n : Node) (k : Nat) (s : State),
    let t := testTaken n k s;
    (((s.node n).taken = true ∨ k ≠ (s.node n).seq) → t = s) ∧
    ((s.node n).taken = false → k = (s.node n).seq →
      t.node n = { s.node n with taken := true, takeTimer := none } ∧ (∀ m, m ≠ n → t.node m = s.node m) ∧
      t.setup = s.setup ∧
      (∀ h : Head, n = h.node →
        let cut : HeadRec := { s.head h with timer := some (s.param .cutTimeout) };
        ((s.head h).state = .cutting → (s.node n).order.kind = Order.kind (.cut 0 0 ⟨0, 0⟩ ⟨0, 0⟩ 0 0 0) → t.head h = cut) ∧
        ((s.head h).state = .parking → (s.node n).order.kind = Order.kind (.park 0) → t.head h = cut) ∧
        ((s.head h).state = .stopping → (s.node n).order = .stop →
          t.head h = if (s.head h).timer = none then cut else s.head h) ∧
        (∀ c f cls out, (s.head h).state = .changing → s.change h = some c → c.state = .out →
          (s.node n).order = .tool f cls out →
          t.change h = some { c with state := .taken, timer := some (s.param .toolTimeout) })) ∧
      (∀ o, n = .picker → s.hand.picker.order = some (o, k) →
        t.hand.picker = { s.hand.picker with timer := some (s.param (match o with
          | .pick => .gripTimeout
          | .retract => .gripTimeout
          | .lift => .liftTimeout
          | .stay => .liftTimeout
          | .place => .placeTimeout)) }) ∧
      (∀ o, n = .elevator → s.hand.elevator.order = some o → o.seq = k →
        t.hand.elevator = { s.hand.elevator with timer := some (s.param .indexTimeout) }) ∧
      (n = .vision → s.locator.active.state = .measuring →
        t.locator.active = { s.locator.active with timer := some (s.param .locateTimeout) }))) ∧
  (∀ (n : Node) (st : Status) (s : State),
    (((s.node n).completed = true ∨ st.done ≠ (s.node n).seq) → testCompleted n st s = s) ∧
    ((s.node n).completed = false → st.done = (s.node n).seq →
      let o := (s.node n).order
      let u := s.setNode n { s.node n with completed := true }
      let res := readResult o st.code;
      (o = .none → testCompleted n st s = u) ∧
      (o ≠ .none → testCompleted n st s = match n with
        | .headA => headCompleted .a o res st.data u
        | .headB => headCompleted .b o res st.data u
        | .picker => pickerCompleted res u
        | .elevator => elevatorCompleted res u
        | .vision => locateDone res st u))) ∧
  (∀ (n : Node) (st : Status) (s : State),
    let t := statusTaken n st s
    let first := firstStatus n st.faulty s
    let heard := first.setNode n { first.node n with contact := 0, fresh := (first.node n).fresh || (first.node n).latch.isSome }
    let u := testCompleted n st (nodeData n st (testTaken n st.taken heard))
    let serves (s : State) : Prop := match n with
      | .headA => (s.head .a).state ≠ .offline ∧ (s.head .a).state ≠ .fault
      | .headB => (s.head .b).state ≠ .offline ∧ (s.head .b).state ≠ .fault
      | .picker => s.hand.picker.state ≠ .offline ∧ s.hand.picker.state ≠ .fault
      | .elevator => s.hand.elevator.state ≠ .offline ∧ s.hand.elevator.state ≠ .fault
      | .vision => True
    let faulted (u : State) : Prop := (t.node n).latch = some .status ∧ (t.node n).fresh = false ∧
      (match n with
        | .headA => headFaulted .a .status u t = true
        | .headB => headFaulted .b .status u t = true
        | .picker => pickerFaulted .status u t = true ∧ servedSettled u t
        | .elevator => elevatorFaulted .status u t = true
        | .vision => u.locator.active.state = .measuring →
            t.locator.active.state = .refused ∧ t.locator.active.outcome = some .visionFault ∧ (t.node n).order = .none)
    let ends : Prop := st.done = (s.node n).seq ∧ (s.node n).completed = false;
    (st.faulty = false ∨ (u.node n).latch.isSome = true →
      t = u.setNode n { u.node n with faultReported := some st.faulty }) ∧
    (st.faulty = true → (u.node n).latch = none → serves u →
      faulted u ∧ ∀ h : Head, n = h.node → cutSettled h .status u t) ∧
    ((s.node n).present = true → (s.node n).latch = none → st.faulty = true → serves s → ¬ ends →
      st.done ≠ nextSeq (s.node n).seq → faulted s) ∧
    t.setup = s.setup ∧
    (t.node n).present = true ∧ (t.node n).contact = 0 ∧ (t.node n).faultReported = some st.faulty ∧
    (∀ w, (s.node n).latch = some w → (t.node n).latch = some w ∧ (t.node n).fresh = true) ∧
    (∀ h : Head, n = h.node → (t.head h).x = some st.x) ∧
    ((s.node n).present = true → first = s) ∧
    ((s.node n).present = false → st.faulty = true →
      (t.node n).latch.isSome = true ∧
      (∀ h : Head, n = h.node → (s.head h).state = .offline → (t.head h).state = .fault ∧ (t.head h).reason = some .status) ∧
      (n = .picker → s.hand.picker.order = none →
        t.hand.picker.state = .fault ∧ t.hand.picker.reason = some .status) ∧
      (n = .elevator → s.hand.elevator.order = none →
        t.hand.elevator.state = .fault ∧ t.hand.elevator.reason = some .status)) ∧
    ((s.node n).present = false → st.faulty = false → st.done ≠ nextSeq (s.node n).seq →
      (∀ h : Head, n = h.node → (s.head h).state = .offline → h ∉ s.spindle.waiting →
        if s.mounted h = none ∨ s.due h = true then (t.head h).state = .changing ∨ (t.head h).state = .noTool
        else (t.head h).state = .idle) ∧
      (n = .picker → s.hand.picker.order = none → t.hand.picker.state = .idle) ∧
      (n = .elevator → s.hand.elevator.order = none → t.hand.elevator.state = .idle)))

/-- An UP port leaves UP at a loss of signal, at a symbol error run of 16 and at the symbol error that makes the run
16 (R164): it enters DOWN and begins training at 100 Mbit/s in that event, and PORT_STATE is raised for both. On a
port that is not UP nothing happens. The model's choices in it: SYMBOL_ERROR_RUN acts on an UP port whatever error run its
record holds (notes/assumptions/8.md), and the error run of a port that is not UP is kept at 0 (notes/assumptions/7.md). -/
def Obligations.PortLeavesUp : Prop :=
  ∀ (q : Port) (s : State),
    let down : State := raise (.portState q .training (some .r100)) (raise (.portState q .down none)
      (s.setPort q { state := .training, rate := some .r100, timer := some 2, sync := 0, errRun := 0 }));
    ((s.port q).state = .up →
      exec (.lossOfSignal q) s = .next down ∧ exec (.symbolErrorRun q) s = .next down ∧
      ((s.port q).errRun = 15 → exec (.symbolReceived q .error) s = .next down)) ∧
    ((s.port q).state ≠ .up → exec (.lossOfSignal q) s = .next s ∧ exec (.symbolErrorRun q) s = .next s)

/-- Port training (R163) and symbols short of their thresholds (R163, R164). The third sync marker makes a training
port UP at its rate. Its timer takes it to the next lower rate, then to FAILED for 250 ms, and from FAILED back to
training at 100 Mbit/s. Each change of state or rate raises PORT_STATE. An expiry of a timer that is not running does
nothing. The model's choices in it: PORT_ENTERS_UP acts on a training port whatever sync count its record holds, and the
sync count stays at 3 in UP (notes/assumptions/8.md); the error run of a port that is not UP is kept at 0
(notes/assumptions/7.md); the sync count of a FAILED port is 0 (notes/assumptions/52.md). -/
def Obligations.PortTrains : Prop :=
  ∀ (q : Port) (s : State),
    let r := s.port q
    let become (x : PortRec) : State := raise (.portState q x.state x.rate) (s.setPort q x)
    let up : State := become { state := .up, rate := r.rate, timer := none, sync := 3, errRun := 0 }
    let training (rate : Rate) : State := become { state := .training, rate := some rate, timer := some 2, sync := 0, errRun := 0 };
    (r.state = .training →
      exec (.portEntersUp q) s = .next up ∧
      (r.sync = 2 → exec (.symbolReceived q .syncMarker) s = .next up) ∧
      (r.sync < 2 → exec (.symbolReceived q .syncMarker) s = .next (s.setPort q { r with sync := r.sync + 1 })) ∧
      (∀ y, y ≠ .syncMarker → exec (.symbolReceived q y) s = .next (s.setPort q { r with sync := 0 }))) ∧
    (r.state ≠ .training → exec (.portEntersUp q) s = .next s) ∧
    (r.state = .up →
      (r.errRun < 15 → exec (.symbolReceived q .error) s = .next (s.setPort q { r with errRun := r.errRun + 1 })) ∧
      (∀ y, y ≠ .error → exec (.symbolReceived q y) s = .next (s.setPort q { r with errRun := 0 }))) ∧
    (r.timer.isSome = true →
      (r.state = .training → r.rate = some .r100 → exec (.trainingTimerExpiry q) s = .next (training .r50)) ∧
      (r.state = .training → r.rate = some .r50 → exec (.trainingTimerExpiry q) s = .next (training .r25)) ∧
      (r.state = .training → r.rate = some .r25 → exec (.trainingTimerExpiry q) s =
        .next (become { state := .failed, rate := none, timer := some 250, sync := 0, errRun := 0 })) ∧
      (r.state = .failed → exec (.trainingTimerExpiry q) s = .next (training .r100))) ∧
    (r.timer = none → exec (.trainingTimerExpiry q) s = .next s)

/-! ### The lines and reset -/

/-- LINE_RAW_CHANGE and STOP_IN_CHANGE. A debounced line's steady timer starts afresh with DEBOUNCE where the raw
level now differs from the conditioned state, and stops where it equals it; only that line's record changes (R151).
STOP_IN asserted while released is taken at once: the cause STOP is added, STOP_LATCHED raised, and in RUN every
CUTTING head stopped (R152, R155), while the cause set of a passive part stays as it is (R165); asserted while asserted it
stops the steady timer; a release starts it. A change to
the level the pin already has does nothing, which is the model's choice (notes/assumptions/36.md). -/
def Obligations.RawChanges : Prop :=
  ∀ s : State, s.lines.inReset = false →
    (∀ (l : SenseLine) (active : Bool), s.lines.lanes.length = 4 →
      ((s.sense l).raw = active → exec (.lineRawChange l active) s = .next s) ∧
      ((s.sense l).raw ≠ active →
        ∃ t : State, exec (.lineRawChange l active) s = .next t ∧
          t.sense l = { raw := active, cond := (s.sense l).cond,
                        timer := if active = (s.sense l).cond then none else some (s.param .debounce) } ∧
          (∀ m, m ≠ l → t.sense m = s.sense m) ∧ { t with lines := s.lines } = s ∧
          t.lines = { s.lines with clamp := t.lines.clamp, extract := t.lines.extract, lanes := t.lines.lanes } ∧
          t.lines.lanes.map LaneLine.stuckTimer = s.lines.lanes.map LaneLine.stuckTimer ∧
          t.lines.lanes.map LaneLine.stuck = s.lines.lanes.map LaneLine.stuck)) ∧
    (let line := s.lines.stopIn
     let put (r : Line) : State := { s with lines := { s.lines with stopIn := r } };
     (∀ a, line.raw = a → exec (.stopInChange a) s = .next s) ∧
     (line.raw = false → line.cond = false →
       (s.passive = false → exec (.stopInChange true) s = .next (raise .stopLatched
         ((put { raw := true, cond := true, timer := none }).withCauses { s.lines.causes with stop := true }))) ∧
       (s.passive = true → exec (.stopInChange true) s = .next (raise .stopLatched
         (put { raw := true, cond := true, timer := none })))) ∧
     (line.raw = false → line.cond = true →
       exec (.stopInChange true) s = .next (put { raw := true, cond := true, timer := none })) ∧
     (line.raw = true → line.cond = true →
       exec (.stopInChange false) s = .next (put { raw := false, cond := true, timer := some (s.param .debounce) })) ∧
     (line.raw = true → line.cond = false →
       exec (.stopInChange false) s = .next (put { raw := false, cond := false, timer := none })))

/-- STEADY_TIMER_EXPIRY and STUCK_TIMER_EXPIRY (R151 to R153, R143, R159, R160): the conditioned state takes the raw
level and the timer stops. STOP_IN released removes no cause. A release of EXTRACT_OK raises EXTRACTION; an activation
of CLAMP_SENSE does nothing to any panel, and its release aborts a LOCATING or CUTTING panel with reason UNCLAMPED; a
lane sensor's activation starts its stuck timer and, where no confirm window of that lane is open, is a stray, whether or
not a service is in progress, and fills no slot (R137, R143); its release clears the stuck flag. An activation of EXTRACT_OK
runs the arbiter (R160). A stuck sensor jams an ACTIVE lane. A timer that is not running does nothing. -/
def Obligations.LineTimersExpire : Prop :=
  ∀ s : State,
    let put (k : Fin 4) (r : LaneLine) : Lines := { s.lines with lanes := s.lines.lanes.set k.val r };
    (∀ l, (match l with | .stopIn => s.lines.stopIn.timer | .sense m => (s.sense m).timer) = none →
      exec (.steadyTimerExpiry l) s = .next s) ∧
    (s.lines.stopIn.timer.isSome = true →
      exec (.steadyTimerExpiry .stopIn) s = .next { s with lines := { s.lines with
        stopIn := { s.lines.stopIn with cond := s.lines.stopIn.raw, timer := none } } }) ∧
    (s.lines.extract.timer.isSome = true → s.lines.extract.raw = false →
      exec (.steadyTimerExpiry (.sense .extractOk)) s = .next (raise .extraction { s with lines := { s.lines with
        extract := { raw := false, cond := false, timer := none } } })) ∧
    (s.lines.clamp.timer.isSome = true → s.lines.clamp.raw = true →
      exec (.steadyTimerExpiry (.sense .clampSense)) s = .next { s with lines := { s.lines with
        clamp := { raw := true, cond := true, timer := none } } }) ∧
    (s.lines.extract.timer.isSome = true → s.lines.extract.raw = true →
      ∃ t : State, exec (.steadyTimerExpiry (.sense .extractOk)) s = .next t ∧ t.setup = { s.setup with lines := { s.lines with
        extract := { raw := true, cond := true, timer := none } } } ∧
        ∃ u : State, t = clearMarks (runArbiter u) ∧ u.setup = t.setup ∧ u.disp.heads = s.disp.heads ∧
          u.disp.tabs = s.disp.tabs ∧ u.disp.unassigned = s.disp.unassigned) ∧
    (s.lines.clamp.timer.isSome = true → s.lines.clamp.raw = false →
      ∃ t : State, exec (.steadyTimerExpiry (.sense .clampSense)) s = .next t ∧
        t.setup = { s.setup with lines := { s.lines with clamp := { raw := false, cond := false, timer := none } } } ∧
        ∀ p, s.tracker.active = some p → p.abort = none →
          p.state = .cutting ∨ (p.state = .locating ∧ p.pendingLoc = none) →
          t.tracker.active.map (fun q => (q.id, q.abort, q.stop)) = some (p.id, some .unclamped, some .unclamped) ∧
          t.notice 6 = (s.notice 6).map (NoticeRec.raise (.panelStopped p.id .unclamped))) ∧
    (∀ (k : Fin 4) (r : LaneLine), s.lines.lanes[k.val]? = some r → r.line.timer.isSome = true →
      (r.line.raw = true → (∀ v, s.hand.service = some v → v.window = none ∨ ∀ i, v.dest ≠ .lane k.val i) →
        ∃ t : State, exec (.steadyTimerExpiry (.sense (.laneSense k))) s = .next t ∧
          t.lines = put k { line := { raw := true, cond := true, timer := none }, stuckTimer := some (s.param .stuckMs), stuck := r.stuck } ∧
          t.notice 17 = (s.notice 17).map (NoticeRec.raise (.laneStray k.val)) ∧
          t.hand.lanes.map Lane.filled = s.hand.lanes.map Lane.filled ∧ t.tracker.totalStacked = s.tracker.totalStacked) ∧
      (r.line.raw = false →
        exec (.steadyTimerExpiry (.sense (.laneSense k))) s = .next { s with
          lines := put k { line := { raw := false, cond := false, timer := none }, stuckTimer := none, stuck := false } })) ∧
    (∀ (k : Fin 4) (r : LaneLine) (l : Lane), s.lines.lanes[k.val]? = some r → s.hand.lanes[k.val]? = some l →
      (r.stuckTimer = none → exec (.stuckTimerExpiry k) s = .next s) ∧
      (r.stuckTimer.isSome = true →
        let t : State := { s with lines := put k { r with stuckTimer := none, stuck := true } };
        (l.state = .active ∨ l.state = .full →
          exec (.stuckTimerExpiry k) s = .next (raise (.laneJam k.val)
            { t with hand := { s.hand with lanes := s.hand.lanes.set k.val { l with state := .jammed } } })) ∧
        (l.state = .absent → exec (.stuckTimerExpiry k) s = .next (raise (.laneJam k.val) t)) ∧
        (l.state = .jammed → exec (.stuckTimerExpiry k) s = .next t)))

/-- POWER_ON, RESET_IN_ASSERTED and RESET_IN_RELEASED (R154). After power-on and after the release every block holds its
reset values, the straps are read as the part's own address, both ports begin training, the cell is HELD with the cause set
{REQUEST}, and each line whose pin differs from its reset state runs its steady timer (R150). Without RESET_IN asserted its
release does nothing. From its assertion on every block holds its reset values with both ports DOWN, and until the release
no command has an effect but power-on: no frame, byte or symbol of the ring, no request, no expiry, and a change of a line
changes its pin alone. The model's choices in it: what the ports' and the notices' records hold right after a start
(notes/assumptions/7.md), the waiting commands, the pins and the counter of free values stay as they are
(notes/assumptions/28.md), so does the address while RESET_IN is asserted (notes/assumptions/28.md), the lines' conditioned
states and the ports' records while RESET_IN is asserted (notes/assumptions/29.md), the sync count of a DOWN port, 0 (notes/assumptions/52.md), the silent mark and timer of a
silence watch not yet armed, clear and none (notes/assumptions/65.md), what an ABSENT lane holds, its counts 0
(notes/assumptions/33.md), the broken mark of an EMPTY rack position, clear (notes/assumptions/45.md), and the model's own
fields: the marks of an event, clear (notes/assumptions/10.md), the length a filter keeps, 0 (notes/assumptions/19.md), the
frame last sent, none (notes/assumptions/27.md). -/
def Obligations.FullResets : Prop :=
  (∀ (straps : BitVec 6) (s : State),
    let pin (cond : Bool) (l : Line) : Line := { raw := l.raw, cond := cond, timer := if l.raw = cond then none else some 6 }
    let started : State := { State.reset with
      pending := s.pending, free := s.free
      lines := { State.reset.lines with
        stopIn := pin true s.lines.stopIn, clamp := pin false s.lines.clamp, extract := pin false s.lines.extract
        lanes := s.lines.lanes.map fun k => { line := pin false k.line, stuckTimer := none, stuck := false }
        strap := straps.toNat } }
    exec (.powerOn straps) s = .next started ∧
    (s.lines.inReset = true → exec (.resetInReleased straps) s = .next started) ∧
    (s.lines.inReset = false → exec (.resetInReleased straps) s = .next s)) ∧
  (∀ s : State,
    let down : PortRec := { state := .down, rate := none, timer := none, sync := 0, errRun := 0 }
    let pin (cond : Bool) (l : Line) : Line := { raw := l.raw, cond := cond, timer := none }
    let held : State := { State.reset with
      pending := s.pending, free := s.free, ring := { State.reset.ring with portP := down, portN := down }
      notices := { recs := defaultLevels.map NoticeRec.reset, mask := 0 }
      lines := { State.reset.lines with
        stopIn := pin true s.lines.stopIn, clamp := pin false s.lines.clamp, extract := pin false s.lines.extract
        lanes := s.lines.lanes.map fun k => { line := pin false k.line, stuckTimer := none, stuck := false }
        strap := s.lines.strap, inReset := true } }
    exec .resetInAsserted s = .next held ∧ exec .resetInAsserted held = .next held) ∧
  (∀ u : State, exec .resetInAsserted u = .next u →
    u.lines.inReset = true ∧
    (∀ c : Instr, (∀ a, c ≠ .powerOn a) → (∀ a, c ≠ .resetInReleased a) → (∀ a, c ≠ .stopInChange a) →
      (∀ l a, c ≠ .lineRawChange l a) → exec c u = .next u) ∧
    (∀ a : Bool,
      let w : State := { u with lines := { u.lines with stopIn := { u.lines.stopIn with raw := a } } }
      exec (.stopInChange a) u = .next w ∧ exec .resetInAsserted w = .next w) ∧
    (∀ (l : SenseLine) (a : Bool),
      let w : State := u.setSense l { u.sense l with raw := a }
      exec (.lineRawChange l a) u = .next w ∧ exec .resetInAsserted w = .next w))

/-! ### Timers and watches -/

/-- TAKE_TIMEOUT and CONTACT_LOSS (R170, R173). A take timer that runs expires with the taken mark clear: the node
enters FAULT with reason TAKE. A PRESENT node with a clear latch whose contact count reaches 8 enters FAULT with
reason CONTACT. The owner acts in the event: a head, the picker and the elevator are in FAULT in their own records
with that reason, their notice raised, and a LOCATE in hand is withdrawn and its record REFUSED, VISION_FAULT (R28). A
faulted head's cut ends: its tab is settled and its other tabs are reassigned (R93, R94, R80; cutSettled), and then the event
ends as every event does (settle). A faulted picker's service is settled: slot, bin place, board and release tab (R145, R66,
R83; servedSettled). What the operator set up is left alone. Otherwise neither has an effect. The model's choices in it:
CONTACT_LOSS acts from any contact count and sets the count to 8 (notes/assumptions/8.md), a withdrawal RETRACT that waits for
RUN is dropped when the picker enters FAULT (notes/assumptions/48.md), a board that the picker's fault makes RETAINED is
withdrawn with no RETRACT (notes/assumptions/57.md), a release tab goes ahead of the settled tab (notes/assumptions/56.md),
attempts rise past 5 (notes/assumptions/58.md), and, through cutSettled, a torn board's service has destination BIN
(notes/assumptions/21.md), and what a pending settlement holds: the head, whether the cut ended by STOPPED, and how
(notes/assumptions/20.md). -/
def Obligations.NodeEntersFault : Prop :=
  ∀ (n : Node) (s : State),
    let faulted (why : FaultReason) (t : State) : Prop :=
      t.setup = s.setup ∧ (t.node n).latch = some why ∧ (t.node n).fresh = false ∧
      (match n with
        | .headA => (s.head .a).state ≠ .offline → (s.head .a).state ≠ .fault →
          headFaulted .a why s t = true ∧ ∃ u, t = settle u ∧ cutSettled .a why s u
        | .headB => (s.head .b).state ≠ .offline → (s.head .b).state ≠ .fault →
          headFaulted .b why s t = true ∧ ∃ u, t = settle u ∧ cutSettled .b why s u
        | .picker =>
          s.hand.picker.state ≠ .offline → s.hand.picker.state ≠ .fault → pickerFaulted why s t = true ∧ servedSettled s t
        | .elevator =>
          s.hand.elevator.state ≠ .offline → s.hand.elevator.state ≠ .fault → elevatorFaulted why s t = true
        | .vision =>
          s.locator.active.state = .measuring →
            t.locator.active.state = .refused ∧ t.locator.active.outcome = some .visionFault ∧ (t.node n).order = .none)
    let owned : Prop :=
      match n with
      | .headA => (s.head .a).state ≠ .offline ∧ (s.head .a).state ≠ .fault
      | .headB => (s.head .b).state ≠ .offline ∧ (s.head .b).state ≠ .fault
      | .picker => s.hand.picker.state ≠ .offline ∧ s.hand.picker.state ≠ .fault
      | .elevator => s.hand.elevator.state ≠ .offline ∧ s.hand.elevator.state ≠ .fault
      | .vision => True;
    ((s.node n).takeTimer.isSome = true → (s.node n).latch = none → owned →
      ∃ t, exec (.takeTimeout n) s = .next t ∧ faulted .take t) ∧
    ((s.node n).present = true → (s.node n).latch = none → owned →
      ∃ t, exec (.contactLoss n) s = .next t ∧ faulted .contact t ∧ (t.node n).contact = 8) ∧
    ((s.node n).takeTimer = none → exec (.takeTimeout n) s = .next s) ∧
    ((s.node n).present = false ∨ (s.node n).latch.isSome = true → exec (.contactLoss n) s = .next s)

/-- HEAD_TIMER_EXPIRY (R95, R96): a head whose timer runs enters FAULT, PARK_TIMEOUT from PARKING and CUT_TIMEOUT from
a cut. A cut in hand ends: STOP is written where a CUT was outstanding, and the tab's attempts rise by one. A cut that a
fault of its head ends, for any reason of R95, is settled by cutSettled: SKIPPED, FAILED with TAB_FAILED, or QUEUED at the front by the SINGLE rules,
and the head's other tabs go behind it (R93, R94, R80); then the event ends as every event does (settle). A timer that does
not run does nothing. And what leaving and entering service do. The mode is PAIRED when both heads are in service,
of one diameter class and one speed class, with SPLIT_X in both reaches, else SINGLE; where a fall from PAIRED fails test 2,
3 or 4 first it raises PAIR_FAULT with CLASS, SPEED or SPLIT (R75). A tab is assigned by the mode in force (R76): PAIRED by
SPLIT_X, or to the other head where that one does not reach it; SINGLE to the lead head, then the follow head, in service and
reaching it (R72), else to the unassigned list; at the back, or at the front for a grant (R82). A head that leaves service
hands its queue over front to back by the SINGLE rules, release tabs to the front (R80); one that enters takes the unassigned
tabs it reaches behind its queue, in list order (R81); then the mode is evaluated. Where one frame takes both heads out of
service, their tabs go to the unassigned list at its end, the lead head's first, a tab of an ended cut that still stands in
its head's queue to the front before the rest (R80). Running that frame's events with neither head taking tabs, and doing so
only where both heads are out of service at their end, is the model's way, as is moving a tab put back after STOPPED with its
queue (notes/assumptions/23.md); so are a release tab ahead of the settled tab (notes/assumptions/56.md), attempts that rise
past 5 (R93; notes/assumptions/58.md), and the codes CLASS 0, SPEED 1, SPLIT 2 (notes/assumptions/13.md). Through cutSettled
two more are: a torn board's service has destination BIN (notes/assumptions/21.md), and what a pending settlement holds: the
head, whether the cut ended by STOPPED, and how (notes/assumptions/20.md). -/
def Obligations.HeadTimerFaults : Prop :=
  (∀ (h : Head) (s : State),
    ((s.head h).timer = none → exec (.headTimerExpiry h) s = .next s) ∧
    ((s.head h).timer.isSome = true →
      ((s.head h).state = .parking →
        ∃ t, exec (.headTimerExpiry h) s = .next t ∧ t.setup = s.setup ∧ headFaulted h .parkTimeout s t = true) ∧
      ((s.head h).state = .cutting ∨ (s.head h).state = .stopping →
        ∃ t, exec (.headTimerExpiry h) s = .next t ∧ t.setup = s.setup ∧ headFaulted h .cutTimeout s t = true ∧
          (t.head h).tab = none ∧ (t.head h).cause = none ∧
          ((s.head h).state = .cutting → (t.node h.node).order = .stop) ∧
          (∀ i, (s.head h).tab = some i → (t.tab i).map Tab.attempts = (s.tab i).map (fun x => x.attempts + 1)) ∧
          ∃ u, t = settle u ∧ cutSettled h .cutTimeout s u))) ∧
  (∀ (h : Head) (s : State), ∀ why ∈ [FaultReason.status, .contact, .take, .cutFault, .cutTimeout],
    cutSettled h why s (headFault h why s)) ∧
  (∀ s : State,
    let serves (h : Head) : Prop := (s.head h).state ∉ [HeadState.offline, .noTool, .fault]
    let cls (h : Head) : Option Nat :=
      (if (s.head h).state = .changing then (s.change h).bind Change.fetch else s.mounted h).bind fun i =>
        (s.rackAt i).map RackPos.cls
    let both : Prop := serves .a ∧ serves .b
    let oneClass : Prop := ∃ k, cls .a = some k ∧ cls .b = some k
    let oneSpeed : Prop := s.param .speedClassA = s.param .speedClassB
    let split : Prop := s.param .reachBMin ≤ s.param .splitX ∧ s.param .splitX ≤ s.param .reachAMax
    let mode (paired : Bool) : State := { s with disp := { s.disp with paired := paired } }
    let falls (test : Nat) : State := if s.disp.paired then raise (.pairFault test) (mode false) else mode false;
    (¬ both → evalPairing s = mode false) ∧
    (both → ¬ oneClass → evalPairing s = falls 0) ∧
    (both → oneClass → ¬ oneSpeed → evalPairing s = falls 1) ∧
    (both → oneClass → oneSpeed → ¬ split → evalPairing s = falls 2) ∧
    (both → oneClass → oneSpeed → split → evalPairing s = mode true)) ∧
  (∀ (x : Tab) (s : State),
    let serves (h : Head) : Prop := (s.head h).state ∉ [HeadState.offline, .noTool, .fault]
    let reaches (h : Head) : Prop := match h with
      | .a => x.start.x ≤ s.param .reachAMax ∧ x.stop.x ≤ s.param .reachAMax
      | .b => (s.param .reachBMin : Int) ≤ x.start.x ∧ (s.param .reachBMin : Int) ≤ x.stop.x
    let below : Prop := x.start.x + x.stop.x < 2 * s.param .splitX
    let takes (h : Head) : Prop := serves h ∧ reaches h ∧ s.ev.bothLeave = false;
    (s.disp.paired = true → s.ev.bothLeave = false →
      (below → (reaches .a → s.assign x = .queueA) ∧ (¬ reaches .a → s.assign x = .queueB)) ∧
      (¬ below → (reaches .b → s.assign x = .queueB) ∧ (¬ reaches .b → s.assign x = .queueA))) ∧
    (s.disp.paired = false ∨ s.ev.bothLeave = true →
      (takes s.lead → s.assign x = placeOf s.lead) ∧
      (¬ takes s.lead → takes s.follow → s.assign x = placeOf s.follow) ∧
      (¬ takes s.lead → ¬ takes s.follow → s.assign x = .unassigned))) ∧
  (∀ (i : Nat) (x : Tab) (place : Place) (front : Bool) (s : State), s.tab i = some x →
    let stand (s : State) : List Nat := match place with
      | .queueA => (s.head .a).queue
      | .queueB => (s.head .b).queue
      | .unassigned => s.disp.unassigned
    let t := putTab i place front s;
    stand t = (if front then i :: stand s else stand s ++ [i]) ∧
    t.tab i =
      some { x with state := .queued, place := some place, cutHead := none, standing := false, settlement := none } ∧
    (x.state = .held → x.settlement = none → grant i s = putTab i (s.assign x) true s) ∧
    (x.state ≠ .held ∨ x.settlement.isSome = true → grant i s = s)) ∧
  (∀ (h : Head) (s : State),
    let release (i : Nat) : Bool := (s.tab i).map Tab.release == some true
    let reached (h : Head) (i : Nat) : Bool := match s.tab i with
      | some x => match h with
        | .a => decide (x.start.x ≤ s.param .reachAMax ∧ x.stop.x ≤ s.param .reachAMax)
        | .b => decide ((s.param .reachBMin : Int) ≤ x.start.x ∧ (s.param .reachBMin : Int) ≤ x.stop.x)
      | none => false
    let serves (h : Head) : Bool := (s.head h).state ∉ [HeadState.offline, .noTool, .fault]
    let put (l old : List Nat) : List Nat := (l.filter release).reverse ++ old ++ l.filter fun i => !release i
    let queue : List Nat := (s.head h).queue
    let other (i : Nat) : Bool := serves h.other && reached h.other i;
    (s.ev.bothLeave = false → s.ev.settled.get h = none → serves h = false → (∀ i ∈ queue, (s.tab i).isSome = true) →
      let t := leaveService h s;
      (t.head h).queue = [] ∧
      (t.head h.other).queue = put (queue.filter other) (s.head h.other).queue ∧
      t.disp.unassigned = put (queue.filter fun i => !other i) s.disp.unassigned ∧
      t.disp.paired = false ∧ t.notices = s.notices ∧
      ∀ i ∈ queue, (t.tab i).map (fun x => (x.state, x.place)) =
        some (.queued, some (if other i then placeOf h.other else .unassigned))) ∧
    (∃ u, enterService h s = evalPairing u ∧
      (u.head h).queue = queue ++ s.disp.unassigned.filter (reached h) ∧
      u.head h.other = s.head h.other ∧
      u.disp.unassigned = s.disp.unassigned.filter (fun i => !reached h i) ∧
      ∀ i ∈ s.disp.unassigned, reached h i = true →
        (u.tab i).map (fun x => (x.state, x.place)) = some (.queued, some (placeOf h))) ∧
    (serves .a = false → serves .b = false →
      (∀ i, i ∈ (s.head .a).queue ∨ i ∈ (s.head .b).queue → (s.tab i).isSome = true) →
      let move (h : Head) (old : List Nat) : List Nat :=
        let first := match s.ev.settled.get h with
          | some i => if i ∈ (s.head h).queue then [i] else []
          | none => []
        put ((s.head h).queue.filter fun i => !first.contains i) (first ++ old)
      let t := moveBoth s;
      (t.head .a).queue = [] ∧ (t.head .b).queue = [] ∧ t.disp.paired = false ∧
        t.disp.unassigned = move s.follow (move s.lead s.disp.unassigned))) ∧
  (∀ (l : List Rec) (s : State),
    let t := frameEvents l s;
    t.ev.left.a = true → t.ev.left.b = true → t.inService .a = false → t.inService .b = false →
      goodFrame l s = settle (moveBoth (frameEvents l { s with ev := { s.ev with bothLeave := true } })))

/-- TOOL_TIMEOUT (R114): the change fails: the head enters FAULT with reason TOOL, its change record and its change
due are gone, the fetch position is no longer engaged by it, and the outgoing bit, unless it was put back already, is
taken as put back in its return state (R116). An interval that does not run does nothing. -/
def Obligations.ToolTimeoutFailsChange : Prop :=
  ∀ (h : Head) (s : State),
    ((∀ c, s.change h = some c → c.timer = none) → exec (.toolTimeout h) s = .next s) ∧
    (∀ c, s.change h = some c → c.timer.isSome = true → c.state ≠ .awaitingRun → (s.head h).state = .changing →
      ∃ t, exec (.toolTimeout h) s = .next t ∧ t.setup = s.setup ∧ headFaulted h .tool s t = true ∧ t.change h = none ∧
        t.due h = false ∧
        (∀ f p, c.fetch = some f → t.rackAt f = some p → p.engaged ≠ some h) ∧
        (∀ i p, c.returned = false → c.outgoing = some i → s.rackAt i = some p →
          (t.rackAt i).map (fun q => (q.mode, q.head, q.brokenMark, q.wear, q.cuts)) =
            some (if p.brokenMark then .broken else if s.param .bitLife ≤ p.wear then .worn else .spare, none, false,
              p.wear, p.cuts)))

/-- LOCATE_TIMEOUT (R28): NONE is written into the vision node's slot with the next sequence number and the record is
REFUSED with outcome TIMEOUT; a LOCATING panel holds the refusal while its expansion is in flight (R45), and is else
REFUSED with that reason (R46). In a record that is not MEASURING, or with no interval running, it does nothing. -/
def Obligations.LocateTimeoutRefuses : Prop :=
  ∀ s : State,
    (s.locator.active.state ≠ .measuring ∨ s.locator.active.timer = none → exec .locateTimeout s = .next s) ∧
    (s.locator.active.state = .measuring → s.locator.active.timer.isSome = true →
      ∃ t, exec .locateTimeout s = .next t ∧ t.setup = s.setup ∧
        t.locator.active = { s.locator.active with
          state := .refused, outcome := some .timeout, detail := none, timer := none } ∧
        (t.node .vision).order = .none ∧ (t.node .vision).seq = nextSeq (s.node .vision).seq ∧
        (∀ p, s.tracker.active = some p → p.state = .locating → p.expanding = true →
          t.tracker.active = some { p with pendingLoc := some .timeout }) ∧
        (∀ p, s.tracker.active = some p → p.state = .locating → p.expanding = false →
          t.tracker.active.map (fun q => (q.id, q.state, q.stop)) = some (p.id, .refused, some .timeout) ∧
          t.notice 6 = (s.notice 6).map (NoticeRec.raise (.panelStopped p.id .timeout))))

/-- The timers of the handover. PICK_TIMER_EXPIRY (R127): RETRACT with the next sequence number supersedes a PICK
whose timer runs; the board stays as it is. PICKER_ORDER_TIMEOUT (R121) and INDEX_TIMEOUT (R120): the order timer of a
RETRACT, LIFT, STAY or PLACE, and the interval of an INDEX, put their node in FAULT with reason TIMEOUT; for the
elevator an index state OUT or DONE becomes WAITING (R146). The picker's fault settles the service (R145; servedSettled). A
RESERVED slot is SUSPECT, and counted, where its PLACE was written, and else EMPTY; a contingency is released. A board in
GRIP_WAIT, GRIPPED or RELEASING is READY at the front of the pick queue, a RELEASING one once its cut has ended, or RETAINED,
ABORTED, under an abort mark; a FREE or IN_TRANSIT one is LOST, PICKER_FAULT, with BOARD_LOST (R66, R65); a board LOST or
RETAINED gives up its bin place (R58). A granted release tab is HELD again, an ORDERED one is stopped with cause HOLD (R83),
and a settlement pending is cleared. Where no such timer runs nothing happens. Two points are the model's choice: a withdrawal
RETRACT that waits for RUN is dropped at the fault (notes/assumptions/48.md), and a board that the fault makes RETAINED is
withdrawn with no RETRACT (notes/assumptions/57.md). -/
def Obligations.HandoverTimersExpire : Prop :=
  ∀ s : State,
    (∀ q : Nat, s.hand.picker.order = some (.pick, q) → s.hand.picker.timer.isSome = true →
      exec .pickTimerExpiry s = .next { s with
        ring := { s.ring with nodes := { s.ring.nodes with
          picker := (s.node .picker).write .retract (s.param .takeTimeout) } }
        hand := { s.hand with picker := { s.hand.picker with
          state := .serving, order := some (.retract, nextSeq (s.node .picker).seq), timer := none } } }) ∧
    (s.hand.picker.timer = none ∨ (∀ q, s.hand.picker.order ≠ some (.pick, q)) → exec .pickTimerExpiry s = .next s) ∧
    (∀ k q, s.hand.picker.order = some (k, q) → k ≠ .pick → s.hand.picker.timer.isSome = true →
      s.hand.picker.state = .serving →
      ∃ t, exec .pickerOrderTimeout s = .next t ∧ t.setup = s.setup ∧ pickerFaulted .timeout s t = true ∧
        servedSettled s t) ∧
    (s.hand.picker.timer = none ∨ s.hand.picker.order = none ∨ (∃ q, s.hand.picker.order = some (.pick, q)) →
      exec .pickerOrderTimeout s = .next s) ∧
    (s.hand.elevator.timer.isSome = true → s.hand.elevator.state = .indexing →
      ∃ t, exec .indexTimeout s = .next t ∧ t.setup = s.setup ∧ elevatorFaulted .timeout s t = true ∧
        ∀ v, s.hand.service = some v → v.index = .out ∨ v.index = .done →
          t.hand.service = some { v with index := .waiting }) ∧
    (s.hand.elevator.timer = none → exec .indexTimeout s = .next s)

/-- The handover's orders complete, and a lane placement is settled. PICK (R126, R63, R82): GRIPPED grips the board and
grants its release tab; MISSED, or the RETRACT of a timed-out PICK (R127), frees slot and service and puts the board at the
back of the pick queue, or RETAINS it at PICK_TRIES. The RETRACT of a withdrawal makes the picker IDLE (R128). LIFT (R130,
R138): OK takes a FREE board to IN_TRANSIT; DROPPED loses it, or waits for a RELEASING one's cut. STAY (R133, R134): HELD
ends the early lift; ALREADY_LIFTED tears the board, SKIPS its tab and writes PLACE(bin) in RUN. PLACE (R134, R137 to R139):
OK bins the board, fills a torn one's place, or starts PLACE_CONFIRM; DROPPED loses it. INDEX (R135, R136): OK makes the
elevator IDLE and the service's index state DONE. PLACE is written in RUN where its conditions then hold (R136). Any other
result is FAULT, ORDER (R121, R120), and the picker's settles the service (R145, R66, R83; servedSettled). A debounced activation of the destination lane's sensor in an OPEN or CLOSING window
confirms the placement: the slot is FILLED, the lane's filled count rises, the board is STACKED. CONFIRM_WINDOW_END ends a
CLOSING window unconfirmed: the slot is SUSPECT, the suspect count rises, the board is LOST, UNCONFIRMED. A CLOSING panel whose
last IN_TRANSIT board that was closes with its tally (R50). The model's readings in it: a torn board's service has destination
BIN and index NOT_NEEDED (notes/assumptions/21.md), what a pending settlement holds (notes/assumptions/20.md), a board that
the picker's fault makes RETAINED is withdrawn with no RETRACT (notes/assumptions/57.md), and no PLACE is written while a window
stands (notes/assumptions/66.md). -/
def Obligations.PlacementSettled : Prop :=
  (∀ (v : Service) (k : Fin 4) (i : Nat) (l : Lane) (ref : PanelRef) (s : State),
    (s.hand.service = none → exec .confirmWindowEnd s = .next s) ∧
    (s.hand.service = some v → (∀ ms, v.window ≠ some (.closing ms)) → exec .confirmWindowEnd s = .next s) ∧
    (s.hand.service = some v → v.dest = .lane k.val i → s.hand.lanes[k.val]? = some l → l.slots[i]? = some .reserved →
      s.panelRef v.panel = some ref → s.boardState ref v.board = some .inTransit →
      let settled (t : State) (now : BoardState) (count : Tally → Tally) : Prop :=
        (∀ p, ref = .active → s.tracker.active = some p → (∀ c, s.tracker.closing = some c → c.half ≠ p.half) →
          v.board ∉ s.tracker.pickQueue → t.boardState .active v.board = some now ∧
            t.tracker.active.map (fun q => (q.id, q.tally)) = some (p.id, count p.tally)) ∧
        (∀ c, ref = .closing → s.tracker.closing = some c → (∀ p, s.tracker.active = some p → c.half ≠ p.half) →
          ((∀ b r, b ≠ v.board → s.board .closing b = some r → r.state ≠ .inTransit) →
            t.tracker.closing = none ∧ t.tracker.lastTally = some { id := c.id, tally := count c.tally } ∧
            t.notice 14 = (s.notice 14).map (NoticeRec.raise (.panelClosed c.id (count c.tally)))) ∧
          ((∃ b r, b ≠ v.board ∧ s.board .closing b = some r ∧ r.state = .inTransit) →
            t.boardState .closing v.board = some now ∧
            t.tracker.closing = some { c with tally := count c.tally }));
      (∀ r : LaneLine, s.lines.lanes[k.val]? = some r → r.line.timer.isSome = true → r.line.raw = true → v.window.isSome = true →
        ∃ t m, exec (.steadyTimerExpiry (.sense (.laneSense k))) s = .next t ∧ t.hand.lanes[k.val]? = some m ∧
          m.slots[i]? = some .filled ∧ m.filled = l.filled + 1 ∧ m.suspect = l.suspect ∧
          t.tracker.totalStacked = min 65535 (s.tracker.totalStacked + 1) ∧
          settled t .stacked fun y => { y with stacked := y.stacked + 1 }) ∧
      (∀ ms, v.window = some (.closing ms) →
        ∃ t m, exec .confirmWindowEnd s = .next t ∧ t.setup = s.setup ∧ t.hand.lanes[k.val]? = some m ∧
          m.slots[i]? = some .suspect ∧ m.suspect = l.suspect + 1 ∧ m.filled = l.filled ∧
          t.tracker.totalStacked = s.tracker.totalStacked ∧
          t.notice 15 = (s.notice 15).map (NoticeRec.raise (.boardLost v.panel v.board .unconfirmed)) ∧
          settled t (.lost .unconfirmed) fun y => { y with lost := y.lost + 1 }))) ∧
  (∀ (kind : PickerOrder) (res : Result) (v : Service) (r : Board) (p : Panel) (s : State),
    s.hand.picker.order = some (kind, (s.node .picker).seq) → s.hand.picker.state = .serving → s.hand.service = some v →
    s.hand.picker.retractDue = false → s.tracker.active = some p → p.id = v.panel → (s.half p.half)[v.board]? = some r →
    let t := pickerCompleted res s
    let order (o : Order) : Prop := (t.node .picker).order = o ∧ (t.node .picker).seq = nextSeq (s.node .picker).seq
    let ended : Prop := t.hand.picker = { s.hand.picker with order := none, timer := none }
    let freed : Prop := t.hand.service = none ∧
      t.hand.picker = { s.hand.picker with state := .idle, order := none, timer := none }
    let slot (was now : SlotState) : Prop := ∀ k i, v.dest = .lane k i → s.slot k i = some was → t.slot k i = some now
    let lost (why : LostReason) : Prop := t.boardState .active v.board = some (.lost why) ∧
      t.notice 15 = (s.notice 15).map (NoticeRec.raise (.boardLost p.id v.board why))
    let placeDue : Prop := s.running = true ∧ v.window = none ∧ (v.dest = .bin ∨ ∃ k i l, v.dest = .lane k i ∧
      v.index = .done ∧ s.hand.lanes[k]? = some l ∧ l.state ≠ .jammed)
    let missed : Prop :=
      freed ∧ slot .reserved .empty ∧
      (r.attempts + 1 < s.param .pickTries →
        t.board .active v.board =
          some { r with attempts := r.attempts + 1, state := .ready, dest := if r.bad then r.dest else none } ∧
        t.tracker.pickQueue = s.tracker.pickQueue ++ [v.board]) ∧
      (s.param .pickTries ≤ r.attempts + 1 → t.boardState .active v.board = some (.retained .pickFailed));
    t.setup = s.setup ∧
    (kind = .pick → res = .gripped → r.state = .gripWait →
      ended ∧ t.board .active v.board = some { r with state := .gripped } ∧
      ∀ x, s.tab r.releaseTab = some x → x.state = .held → x.settlement = none →
        (t.tab r.releaseTab).map Tab.state = some .queued) ∧
    (kind = .pick → res = .missed → r.state = .gripWait → missed) ∧
    (kind = .retract → res = .ok → r.state = .gripWait → missed) ∧
    (kind = .lift → res = .ok → r.state = .free → v.torn = false →
      t.boardState .active v.board = some .inTransit ∧ t.hand.service.map Service.early = some .lifted ∧
      (placeDue → order (.place v.panel v.board v.dest) ∧
        (v.dest ≠ .bin → t.hand.service.bind Service.window = some .opened)) ∧
      (¬ placeDue → ended)) ∧
    (kind = .lift → res = .ok → r.state = .releasing → v.torn = false →
      ended ∧ t.boardState .active v.board = some .releasing ∧ t.hand.service.map Service.early = some .lifted) ∧
    (kind = .lift → res = .dropped → r.state = .free → freed ∧ slot .reserved .empty ∧ lost .dropped) ∧
    (kind = .lift → res = .dropped → r.state = .releasing →
      ended ∧ t.boardState .active v.board = some .releasing ∧ t.hand.service.map Service.early = some .dropped) ∧
    (kind = .stay → res = .held → r.state = .releasing →
      ∀ x q, s.tab r.releaseTab = some x → x.settlement = some q → x.owner = v.board →
        (t.tab r.releaseTab).map Tab.settlement = some none ∧
        (p.abort.isSome = true → (t.tab r.releaseTab).map Tab.state = some .skipped ∧
          t.boardState .active v.board = some (.retained .aborted) ∧ t.hand.service = none ∧
          (s.running = true → order .retract)) ∧
        (p.abort = none → s.param .maxAttempts ≤ x.attempts → (t.tab r.releaseTab).map Tab.state = some .failed ∧
          t.boardState .active v.board = some (.retained .tabFailed) ∧ t.hand.service = none ∧
          t.notice 7 = (s.notice 7).map (NoticeRec.raise (.tabFailed p.id r.releaseTab q.how))) ∧
        (p.abort = none → x.attempts < s.param .maxAttempts → (t.tab r.releaseTab).map Tab.state = some .queued ∧
          t.boardState .active v.board = some .gripped ∧
          t.hand.service = some { v with early := .none, contingency := false } ∧
          t.hand.binReserved = s.hand.binReserved - (if v.contingency then 1 else 0))) ∧
    (kind = .stay → res = .alreadyLifted → r.state = .releasing →
      ∀ x, s.tab r.releaseTab = some x → x.owner = v.board → x.linked = none →
        (t.tab r.releaseTab).map Tab.state = some .skipped ∧ lost .torn ∧ slot .reserved .empty ∧
        t.hand.service =
          some { v with torn := true, dest := .bin, index := .notNeeded, window := none } ∧
        (s.running = true → order (.place v.panel v.board .bin)) ∧ (s.running = false → ended)) ∧
    (kind = .place → res = .ok → v.torn = true → freed ∧
      (0 < s.hand.binReserved →
        t.hand.binReserved = s.hand.binReserved - 1 ∧ t.hand.binFilled = s.hand.binFilled + 1) ∧
      t.tracker = s.tracker) ∧
    (kind = .place → res = .ok → v.torn = false → v.dest = .bin → r.state = .inTransit → freed ∧
      t.boardState .active v.board = some .binned ∧
      t.tracker.active = some { p with tally := { p.tally with binned := p.tally.binned + 1 } } ∧
      (0 < s.hand.binReserved →
        t.hand.binReserved = s.hand.binReserved - 1 ∧ t.hand.binFilled = s.hand.binFilled + 1)) ∧
    (kind = .place → res = .ok → v.torn = false → v.dest ≠ .bin →
      (v.window = some .opened →
        ended ∧ t.hand.service = some { v with window := some (.closing (s.param .placeConfirm)) }) ∧
      (v.window = none → freed)) ∧
    (kind = .place → res = .dropped → v.torn = true → freed ∧ t.tracker = s.tracker ∧
      t.hand.binReserved = s.hand.binReserved - (if v.contingency then 1 else 0) ∧
      t.hand.binFilled = s.hand.binFilled) ∧
    (kind = .place → res = .dropped → v.torn = false → r.state = .inTransit →
      (v.dest = .bin ∨ v.window.isSome = true → freed ∧ lost .dropped ∧ slot .reserved .suspect) ∧
      (v.dest ≠ .bin → v.window = none → freed)) ∧
    ((match kind with
        | .pick => res ≠ .gripped ∧ res ≠ .missed
        | .retract => res ≠ .ok
        | .lift => res ≠ .ok ∧ res ≠ .dropped
        | .stay => res ≠ .held ∧ res ≠ .alreadyLifted
        | .place => res ≠ .ok ∧ res ≠ .dropped) → pickerFaulted .order s t = true ∧ servedSettled s t)) ∧
  (∀ s : State, s.hand.service = none → s.hand.picker.order = some (.retract, (s.node .picker).seq) →
    pickerCompleted .ok s = askSelect { s with hand := { s.hand with
      picker := { s.hand.picker with state := .idle, order := none, timer := none } } }) ∧
  (∀ (o : IndexOut) (res : Result) (s : State), s.hand.elevator.order = some o → o.seq = (s.node .elevator).seq →
    s.hand.elevator.state = .indexing →
    let t := elevatorCompleted res s;
    (res ≠ .ok → elevatorFaulted .order s t = true) ∧
    (res = .ok →
      t.hand.elevator = { s.hand.elevator with state := .idle, order := none, timer := none } ∧ t.setup = s.setup ∧
      t.tracker = s.tracker ∧
      (∀ v, s.hand.service = some v →
        t.hand.service.map Service.index = some (if v.dest = .lane o.lane o.slot then .done else v.index) ∧
        (∀ l, v.dest = .lane o.lane o.slot → s.running = true → s.hand.picker.order = none →
          s.hand.picker.state = .serving → v.window = none → v.torn = false → s.servedState v = some .inTransit →
          s.hand.lanes[o.lane]? = some l → l.state ≠ .jammed →
          (t.node .picker).order = .place v.panel v.board v.dest ∧
            t.hand.service.bind Service.window = some .opened))))

/-! ### Location, cutting and wear -/

/-- The quotient of R30, for a positive denominator: nearest to the exact one, a half away from zero. -/
def Obligations.RoundingIsNearest : Prop :=
  ∀ n d : Int, 0 < d →
    2 * |roundDiv n d * d - n| ≤ d ∧ (2 * |roundDiv n d * d - n| = d → |n| < |roundDiv n d * d|) ∧
      roundDiv (-n) d = -roundDiv n d

/-- "Mapping N0 gives M0 exactly" (R34). And a panel that is only moved maps by that move: with M1 − M0 equal to N1 −
N0, the transform is c = 1 in Q20 and s = 0, every point moves by M0 − N0 with no rounding, and the scale and rotation
checks pass (R31 to R34). A LOCATE completes in MEASURING only (R27). FOUND stores the marks asked for and the transform;
the first check that fails, of scale, rotation and third mark (R32, R33, R35), refuses the record with its outcome, and else
the outcome is PASS with the picker angle, and the record PASSED, or MAPPED where the expansion is complete (R36 to R38).
NOT_FOUND refuses it with the lowest mark asked for that was not found, and stores no mark; any other result is
VISION_FAULT. A refusal waits in a LOCATING panel whose expansion is in flight, and else makes it REFUSED (R45, R46). -/
def Obligations.MappingFollowsMarks : Prop :=
  (∀ (n0 n1 m0 m1 p : Pt) (c s : Int) (tol limit : Nat),
    let u : Pt := ⟨p.x - n0.x, p.y - n0.y⟩
    let dn : Pt := ⟨n1.x - n0.x, n1.y - n0.y⟩
    let dm : Pt := ⟨m1.x - m0.x, m1.y - m0.y⟩
    let sq : Int := dn.x * dn.x + dn.y * dn.y;
    mapPoint n0 m0 c s n0 = m0 ∧
    mapPoint n0 m0 c s p =
      ⟨m0.x + roundDiv (c * u.x - s * u.y) 1048576, m0.y + roundDiv (s * u.x + c * u.y) 1048576⟩ ∧
    (0 < sq → dm = dn →
      let c := roundDiv ((dn.x * dm.x + dn.y * dm.y) * 1048576) sq
      let k := roundDiv ((dn.x * dm.y - dn.y * dm.x) * 1048576) sq;
      c = 1048576 ∧ k = 0 ∧ mapPoint n0 m0 c k p = ⟨p.x + (m0.x - n0.x), p.y + (m0.y - n0.y)⟩ ∧
        |dm.x * dm.x + dm.y * dm.y - sq| * 1000000 ≤ 2 * tol * sq ∧ |k| ≤ limit)) ∧
  (∀ (st : Status) (res : Result) (n0 n1 : Pt) (s : State), s.locator.active.n0 = some n0 → s.locator.active.n1 = some n1 →
    (s.locator.active.wantF2 = true → s.locator.active.n2.isSome = true) →
    let r := s.locator.active
    let t := locateDone res st s
    let refused (q : LocRec) (o : LocOutcome) (detail : Option Nat) : Prop :=
      t.locator.active = { q with state := .refused, outcome := some o, detail := detail, timer := none } ∧
      t.setup = s.setup ∧
      (∀ p, s.tracker.active = some p → p.state = .locating → p.expanding = true →
        t.tracker.active = some { p with pendingLoc := some o }) ∧
      (∀ p, s.tracker.active = some p → p.state = .locating → p.expanding = false →
        t.tracker.active.map (fun q => (q.id, q.state, q.stop)) = some (p.id, .refused, some o.stopReason) ∧
        t.notice 6 = (s.notice 6).map (NoticeRec.raise (.panelStopped p.id o.stopReason)));
    (r.state ≠ .measuring → t = s) ∧
    (r.state = .measuring →
      (res = .notFound →
        let missing (i : Nat) : Prop := st.missing.getLsbD i = true
        refused r .notFound
          (if missing 0 then some 0 else if missing 1 then some 1
           else if r.wantF2 = true ∧ missing 2 then some 2 else none)) ∧
      (res ≠ .found → res ≠ .notFound → refused r .visionFault none) ∧
      (res = .found →
        let dn : Pt := ⟨n1.x - n0.x, n1.y - n0.y⟩
        let dm : Pt := ⟨st.m1.x - st.m0.x, st.m1.y - st.m0.y⟩
        let sq : Int := dn.x * dn.x + dn.y * dn.y
        let c := roundDiv ((dn.x * dm.x + dn.y * dm.y) * 1048576) sq
        let k := roundDiv ((dn.x * dm.y - dn.y * dm.x) * 1048576) sq
        let q : LocRec := { r with
          m0 := some st.m0, m1 := some st.m1, m2 := if r.wantF2 then some st.m2 else none, c := some c, s := some k,
          timer := none }
        let scale : Prop := |dm.x * dm.x + dm.y * dm.y - sq| * 1000000 ≤ 2 * s.param .scaleTol * sq
        let rotation : Prop := |k| ≤ s.param .rotLimit
        let third : Prop := r.wantF2 = true → ∀ n2, r.n2 = some n2 →
          let p2 := mapPoint n0 st.m0 c k n2;
          (st.m2.x - p2.x) * (st.m2.x - p2.x) + (st.m2.y - p2.y) * (st.m2.y - p2.y) ≤
            s.param .fidTol * s.param .fidTol;
        (¬ scale → refused q .scale none) ∧
        (scale → ¬ rotation → refused q .rotation none) ∧
        (scale → rotation → ¬ third → refused q .mismatch none) ∧
        (scale → rotation → third →
          t.setup = s.setup ∧
          t.locator.active = { q with
            state := if s.tracker.active.map Panel.expanding = some false then .mapped else .passed
            outcome := some .pass, angle := some (roundDiv (k * 1000000) 1048576) } ∧
          ∀ p, s.tracker.active = some p →
            if p.expanding then t.tracker.active = some p else t.tracker.active.map Panel.state = some .cutting))))

/-- A block of the load filter (R101): 2^k samples offered to a filter at the start of a block give one value, the
truncated mean of the samples, as the last filtered value; the sum and the count are 0 again, and the runs follow
R102. And what a status record's data do for a head (R100): its x is kept; of a CUTTING head whose CUT it reports taken and
not done, the remaining length is kept, and the load sample is accepted where the advanced length is at least LOAD_BLANK, into
the block or completing it. A low run at LOW_CONFIRM declares BROKEN: the head is STOPPING with that cause and STOP written,
the mounted bit is marked, the change is due and BIT_BROKEN is raised; a high run at HIGH_CONFIRM declares OVERLOAD: the STOP
alone (R102, R91). Then an early LIFT is written where R131's conditions hold, with a bin place reserved for its contingency
(R144), and where they do not, nothing of the handover changes. The model's readings in it: L is held with the filter
(notes/assumptions/19.md), and the early lift is tested after the monitor (notes/assumptions/25.md). -/
def Obligations.FilterAveragesBlock : Prop :=
  (∀ (lo hi : Nat) (f : Filter) (xs : List Nat), f.sum = 0 → f.count = 0 → xs.length = 2 ^ f.shift →
    let v := xs.sum / 2 ^ f.shift
    xs.foldl (fun f x => (f.sample lo hi x).1) f =
      { f with
        last := some v, peak := some (max v (f.peak.getD 0)), low := if v < lo then f.low + 1 else 0
        high := if hi < v then f.high + 1 else 0 }) ∧
  (∀ (h : Head) (st : Status) (s : State),
    let t := headData h st s
    let f := s.filter h
    let slot := s.node h.node
    let cutting : Prop := (s.head h).state = .cutting ∧ st.taken = slot.seq ∧ st.done ≠ slot.seq
    let advanced : Nat := f.len - min f.len st.remaining
    let kept : Filter := { f with remaining := some st.remaining }
    let sum := f.sum + st.load
    let block : Prop := f.count + 1 = 2 ^ f.shift
    let v := sum / 2 ^ f.shift
    let low := if v < s.param .loadLow then f.low + 1 else 0
    let high := if s.param .loadHigh < v then f.high + 1 else 0
    let broken : Prop := v < s.param .loadLow ∧ s.param .lowConfirm ≤ low
    let overload : Prop := ¬ broken ∧ s.param .loadHigh < v ∧ s.param .highConfirm ≤ high
    let goesOn : Prop := t.head h = { s.head h with x := some st.x } ∧ t.node h.node = slot ∧ t.spindle.rack = s.spindle.rack ∧
      t.spindle.due = s.spindle.due ∧ t.notice 8 = s.notice 8
    let stops (cause : StopCause) : Prop :=
      t.head h = { s.head h with x := some st.x, state := .stopping, cause := some cause } ∧
        t.node h.node = slot.write .stop (s.param .takeTimeout);
    t.setup = s.setup ∧
    (¬ cutting → t = s.setHead h { s.head h with x := some st.x }) ∧
    (cutting → advanced < s.param .loadBlank → goesOn ∧ t.filter h = kept) ∧
    (cutting → s.param .loadBlank ≤ advanced →
      (¬ block → goesOn ∧ t.filter h = { kept with sum := sum, count := f.count + 1 }) ∧
      (block →
        t.filter h = { kept with
          sum := 0, count := 0, last := some v, peak := some (max v (f.peak.getD 0)), low := low, high := high } ∧
        (broken → stops .broken ∧ t.due h = true ∧
          ∀ i p, s.mounted h = some i → s.rackAt i = some p → t.rackAt i = some { p with brokenMark := true } ∧
            ∀ j, (s.head h).tab = some j →
              t.notice 8 = (s.notice 8).map (NoticeRec.raise (.bitBroken h i s.activeId j))) ∧
        (overload → stops .overload ∧ t.spindle.rack = s.spindle.rack ∧ t.spindle.due = s.spindle.due ∧
          t.notice 8 = s.notice 8) ∧
        (¬ broken → ¬ overload → goesOn))) ∧
    (∀ x, (s.head h).tab.bind s.tab = some x →
      let held := s.hand.binFilled + s.hand.binReserved
      let early (v : Service) : Prop := cutting ∧ (t.head h).state = .cutting ∧ 0 < s.param .earlyLead ∧
        st.remaining ≤ s.param .earlyLead ∧ x.release = true ∧ v.panel = s.activeId ∧ v.board = x.owner ∧
        s.boardState .active x.owner = some .releasing ∧ v.early = .none ∧ s.running = true ∧
        s.hand.picker.order = none ∧ held < s.param .rejectCapacity;
      (∀ v, s.hand.service = some v →
        (early v →
          t.node .picker = (s.node .picker).write (.lift v.panel v.board) (s.param .takeTimeout) ∧
          t.hand = { s.hand with
            picker := { s.hand.picker with
              state := .serving, order := some (.lift, nextSeq (s.node .picker).seq), timer := none }
            service := some { v with contingency := true, early := .out }, binReserved := s.hand.binReserved + 1 } ∧
          t.notice 11 = if held + 1 = s.param .rejectCapacity then
            (s.notice 11).map (NoticeRec.raise (.binFull s.hand.binFilled (s.hand.binReserved + 1))) else s.notice 11) ∧
        (¬ early v → t.hand = s.hand ∧ t.node .picker = s.node .picker)) ∧
      (s.hand.service = none → t.hand = s.hand ∧ t.node .picker = s.node .picker)))

/-- A CUT is issued by the arbiter only to an IDLE head with no inhibit in force (R85, R88), for the first of the
first four entries of its queue that passes (R86): the tab stands at least HEAD_CLEARANCE from the other head's
occupied interval (R84). The order carries the tab's points, length and feed class and the head's speed class (R89). And
where none passes (R87): the head waits while the other head is at work or out of service, or IDLE with an entry that
passes; an IDLE head with an empty queue is sent PARK, unless it is at its park position; and where two IDLE heads block
each other, the follow head is, on the same terms. PARK carries x = 0 for head A and 720,000 for head B (R96). And
of every step of the part: where it leaves a CUT in a head's slot that was not there before, the cell is in RUN, EXTRACT_OK
is active, the panel is CUTTING, the head is CUTTING the ORDERED tab the CUT names, with that tab's points, length and feed
class, and the two heads' occupied intervals stand at least HEAD_CLEARANCE apart. That only the first
four entries of the other head's queue are looked at for one that passes is the model's reading (notes/assumptions/62.md). -/
def Obligations.CutKeepsClearance : Prop :=
  (∀ (h : Head) (s : State), (s.head h).state = .idle → ((arbiter h s).head h).state = .cutting →
    s.running = true ∧ s.lines.extract.cond = true ∧ s.cutting = true ∧
    ∃ (n i : Nat) (t : Tab), n < 4 ∧ (s.head h).queue[n]? = some i ∧ s.tab i = some t ∧ ((arbiter h s).head h).tab = some i ∧
      (match h with
        | .a => t.x2 + (s.param .headClearance : Int) ≤ s.occLow .b
        | .b => s.occHigh .a + (s.param .headClearance : Int) ≤ t.x1) ∧
      (∀ m j u, m < n → (s.head h).queue[m]? = some j → s.tab j = some u → s.passes h u = false) ∧
      (arbiter h s).node h.node =
        (s.node h.node).write (.cut s.activeId i t.start t.stop t.len t.feed (s.speedClass h)) (s.param .takeTimeout)) ∧
  (∀ (h : Head) (s : State),
    let t := arbiter h s
    let o := h.other
    let passes (g : Head) (u : Tab) : Prop := match g with
      | .a => u.x2 + (s.param .headClearance : Int) ≤ s.occLow .b
      | .b => s.occHigh .a + (s.param .headClearance : Int) ≤ u.x1
    let blocked (g : Head) : Prop :=
      ∀ m j u, m < 4 → (s.head g).queue[m]? = some j → s.tab j = some u → ¬ passes g u
    let park (g : Head) : Int := match g with
      | .a => 0
      | .b => 720000
    let sent (g : Head) : Prop :=
      if (s.head g).x = none ∨ (s.head g).x = some (park g) then t = s
      else t.head g = { s.head g with state := .parking, timer := none } ∧
        t.node g.node = (s.node g.node).write (.park (park g)) (s.param .takeTimeout) ∧
        t.head g.other = s.head g.other ∧ t.node g.other.node = s.node g.other.node ∧ t.disp.tabs = s.disp.tabs ∧
        t.setup = s.setup
    let runs : Prop := (s.head h).state = .idle ∧ (s.head h).queue ≠ [] ∧ s.running = true ∧
      s.lines.extract.cond = true ∧ s.cutting = true;
    (¬ runs → t = s) ∧
    (runs → ¬ blocked h → (t.head h).state = .cutting) ∧
    (runs → blocked h →
      ((s.head o).state ≠ .idle → t = s) ∧
      ((s.head o).state = .idle → (s.head o).queue = [] → sent o) ∧
      ((s.head o).state = .idle → (s.head o).queue ≠ [] → ¬ blocked o → t = s) ∧
      ((s.head o).state = .idle → (s.head o).queue ≠ [] → blocked o → sent s.follow))) ∧
  (∀ (h : Head) (s t : State) (p i : Nat) (u v : Pt) (len feed speed : Nat), step s = .next t →
    (t.node h.node).order = .cut p i u v len feed speed →
    (s.node h.node).order ≠ .cut p i u v len feed speed ∨ (s.node h.node).seq ≠ (t.node h.node).seq →
    t.running = true ∧ t.lines.extract.cond = true ∧ t.cutting = true ∧ p = t.activeId ∧
    (t.head h).state = .cutting ∧ (t.head h).tab = some i ∧ speed = t.speedClass h ∧
    (∃ x, t.tab i = some x ∧ x.state = .ordered ∧ u = x.start ∧ v = x.stop ∧ len = x.len ∧ feed = x.feed) ∧
    t.occHigh .a + (t.param .headClearance : Int) ≤ t.occLow .b)

/-- A cut that ends DONE charges the mounted bit ceil(L / 1,000) + PLUNGE_EQUIV mm and one cut, both saturating
(R104), and a cut that ends without DONE its advanced length in place of L (R105); wear at or above BIT_LIFE then
makes the change due (R106). Only that bit and that flag change. -/
def Obligations.CutChargesBit : Prop :=
  ∀ (h : Head) (i len : Nat) (rem : Option Nat) (p : RackPos) (s : State), s.mounted h = some i → s.rackAt i = some p →
    let charged (mm : Nat) : State :=
      let wear := min 1048575 (p.wear + mm)
      { s with spindle := { s.spindle with
        rack := s.spindle.rack.set i { p with wear := wear, cuts := min 65535 (p.cuts + 1) }
        due := if s.param .bitLife ≤ wear then s.spindle.due.set h true else s.spindle.due } }
    accountDone h len s = charged ((len + 999) / 1000 + s.param .plungeEquiv) ∧
    accountAbort h rem s =
      let l := (s.filter h).len
      let a := match rem.or (s.filter h).remaining with
        | some r => if l ≤ r then 0 else l - r
        | none => 0
      charged ((a + 999) / 1000 + s.param .plungeEquiv)

/-- What the completion of a head's order does. A CUT that completes OK, and a STOP with ALREADY_DONE (R90, R92): the tab is
DONE with the peak and the last cut, and a release tab's RELEASING board is FREE, with LIFT written in RUN, or IN_TRANSIT or
LOST as its early lift went (R64, R130). A STOP with STOPPED (R92): attempts rise by one for BROKEN and OVERLOAD, the feed
class falls by one for OVERLOAD, and the tab is settled (R93, R94): SKIPPED by a standing skip; for a release tab by the
early lift: torn, or HELD with STAY written; SKIPPED for an aborted panel's release tab; FAILED at MAX_ATTEMPTS, with
TAB_FAILED; and else back to the front of the head's queue, its board GRIPPED. Where a picker fault made the board READY
(R66), DONE makes it LOST, PICKER_FAULT, and STOPPED leaves the tab HELD and puts the board at the front of the pick queue. A
STOP after CELL_RESET, with no tab named, only charges the bit as an aborted cut (R97, R105). A PARK with OK ends there (R96).
Then the head is IDLE, or begins the change that is due (R109). A TOOL with OK (R112, R116): the fetched bit is MOUNTED, the outgoing
one in its return state, the change over and not due; with NO_BIT (R113) the fetch position is EMPTY, the outgoing bit is
put back, and a bit is chosen again. Any other result puts the head in FAULT, a cut in hand settled by
cutSettled (R95, R96, R114). A tab that ends DONE or
SKIPPED lowers its owner's and its linked board's open-tab counts by one (R56), and no other falls but where a board is
RETAINED and its tabs skipped. The model's readings in it: a torn board's service has destination BIN
(notes/assumptions/21.md), what a pending settlement holds (notes/assumptions/20.md), a release tab ahead of the settled tab
(notes/assumptions/56.md), and attempts that rise past 5 (notes/assumptions/58.md). -/
def Obligations.HeadOrdersComplete : Prop :=
  (∀ (h : Head) (o : Order) (res : Result) (rem i : Nat) (x : Tab) (r : Board) (s : State),
    (s.head h).tab = some i → s.tab i = some x → s.board .active x.owner = some r → i ∉ (s.head h).queue →
    ((s.head h).state = .cutting ∧ o.kind = Order.kind (.cut 0 0 ⟨0, 0⟩ ⟨0, 0⟩ 0 0 0)) ∨
      ((s.head h).state = .stopping ∧ o = .stop) →
    let t := headCompleted h o res rem s
    let cause : StopCause := (s.head h).cause.getD .hold
    let done : Prop := if o = .stop then res = .alreadyDone else res = .ok
    let stopped : Prop := o = .stop ∧ res = .stopped
    let peak : Option Nat := some ((s.filter h).peak.getD 0)
    let attempts : Nat := if cause = .broken ∨ cause = .overload then x.attempts + 1 else x.attempts
    let failed : Option NoticeRec := (s.notice 7).map (NoticeRec.raise (.tabFailed s.activeId i (match cause with
      | .hold => .hold
      | .abort => .abort
      | .broken => .broken
      | .overload => .overload
      | .reset => .hold)))
    let state (st : TabState) : Prop := (t.tab i).map Tab.state = some st
    let requeued : Prop := state .queued ∧
      (t.due h = false → (t.head h).queue = i :: (s.head h).queue ∧ (t.tab i).map Tab.place = some (some (placeOf h)));
    (done ∨ stopped →
      t.setup = s.setup ∧ (t.head h).tab = none ∧ (t.head h).cause = none ∧ (t.head h).timer = none ∧
      (if t.due h = true then (t.head h).state = .changing ∨ (t.head h).state = .noTool else (t.head h).state = .idle) ∧
      ((t.tab i).map Tab.state = some .done ∨ (t.tab i).map Tab.state = some .skipped →
        let joined (b : Nat) : Prop := b = x.owner ∨ x.linked = some b;
        x.linked ≠ some x.owner → ∀ b q, joined b → s.board .active b = some q →
          ∃ y, t.board .active b = some y ∧ y.openTabs ≤ q.openTabs - 1 ∧
            ((∀ c, joined c → t.isRetained c = s.isRetained c) → y.openTabs = q.openTabs - 1))) ∧
    (done →
      t.tab i = some { x with
        state := .done, standing := false, place := none, cutHead := none, lastCut := some (h, x.feed), peak := peak } ∧
      (x.release = true → r.state = .releasing →
        (s.earlyLift x.owner = .none → t.boardState .active x.owner = some .free ∧
          ∀ v, s.hand.service = some v → v.panel = s.activeId → v.board = x.owner → s.running = true →
            s.hand.picker.order = none → s.hand.picker.state = .serving →
            (t.node .picker).order = .lift v.panel v.board) ∧
        (s.earlyLift x.owner = .out → t.boardState .active x.owner = some .free) ∧
        (s.earlyLift x.owner = .lifted → t.boardState .active x.owner = some .inTransit) ∧
        (s.earlyLift x.owner = .dropped → t.boardState .active x.owner = some (.lost .dropped))) ∧
      (x.release = true → r.state = .ready → t.boardState .active x.owner = some (.lost .pickerFault) ∧
        t.notice 15 = (s.notice 15).map (NoticeRec.raise (.boardLost s.activeId x.owner .pickerFault)))) ∧
    (stopped →
      (t.tab i).map (fun y => (y.attempts, y.feed, y.peak)) =
        some (attempts, if cause = .overload then x.feed - 1 else x.feed, peak) ∧
      (x.standing = true → state .skipped) ∧
      (x.standing = false → x.release = false →
        (s.param .maxAttempts ≤ attempts → state .failed ∧ t.notice 7 = failed ∧
          (r.state = .attached → t.boardState .active x.owner = some (.retained .tabFailed))) ∧
        (attempts < s.param .maxAttempts → requeued)) ∧
      (x.standing = false → x.release = true → r.state = .releasing →
        (s.earlyLift x.owner = .lifted → state .skipped ∧ t.boardState .active x.owner = some (.lost .torn) ∧
          t.hand.service.map (fun v => (v.torn, v.dest)) = some (true, .bin)) ∧
        (s.earlyLift x.owner = .dropped → state .skipped ∧ t.boardState .active x.owner = some (.lost .torn) ∧
          t.hand.service = none) ∧
        (s.earlyLift x.owner = .out → state .held ∧ t.boardState .active x.owner = some .releasing ∧
          (t.tab i).map Tab.settlement = some (some ⟨h, true, cause.how⟩) ∧
          (t.node .picker).order = .stay s.activeId x.owner) ∧
        (s.earlyLift x.owner = .none →
          (s.abortMarked = true → state .skipped ∧ t.boardState .active x.owner = some (.retained .aborted)) ∧
          (s.abortMarked = false → s.param .maxAttempts ≤ attempts →
            state .failed ∧ t.notice 7 = failed ∧ t.boardState .active x.owner = some (.retained .tabFailed)) ∧
          (s.abortMarked = false → attempts < s.param .maxAttempts →
            requeued ∧ t.boardState .active x.owner = some .gripped))) ∧
      (x.standing = false → x.release = true → r.state = .ready → s.earlyLift x.owner = .none →
        state .held ∧ t.boardState .active x.owner = some .ready ∧
        t.tracker.pickQueue =
          if x.owner ∈ s.tracker.pickQueue then s.tracker.pickQueue else x.owner :: s.tracker.pickQueue)) ∧
    (¬ done → ¬ stopped → headFaulted h .cutFault s t = true ∧ cutSettled h .cutFault s t)) ∧
  (∀ (h : Head) (res : Result) (rem : Nat) (s : State), (s.head h).tab = none → (s.head h).state = .stopping →
    let t := headCompleted h .stop res rem s;
    (res = .stopped ∨ res = .alreadyDone →
      let u := accountAbort h (if res = .stopped then some rem else none) s;
      (u.due h = false →
        t = u.setHead h { s.head h with state := .idle, cause := none, timer := none }) ∧
      (u.due h = true → (t.head h).state = .changing ∨ (t.head h).state = .noTool)) ∧
    (res ≠ .stopped → res ≠ .alreadyDone → headFaulted h .cutFault s t = true) ∧
    ((s.head h).queue = [] → t.disp.tabs = s.disp.tabs) ∧ t.tracker = s.tracker ∧ t.hand = s.hand ∧ t.setup = s.setup) ∧
  (∀ (h : Head) (x : Int) (res : Result) (rem : Nat) (s : State), (s.head h).state = .parking →
    let t := headCompleted h (.park x) res rem s;
    (res = .ok → t.setup = s.setup ∧ (t.head h).timer = none ∧
      (s.due h = true → (t.head h).state = .changing ∨ (t.head h).state = .noTool) ∧
      (s.due h = false → t = s.setHead h { s.head h with state := .idle, timer := none })) ∧
    (res ≠ .ok → headFaulted h .parkFault s t = true)) ∧
  (∀ (h : Head) (f cls : Nat) (out : Option Nat) (res : Result) (rem : Nat) (c : Change) (q : RackPos) (s : State),
    (s.head h).state = .changing → s.change h = some c → c.state ≠ .awaitingRun → c.fetch = some f →
    s.spindle.rack[f]? = some q → c.outgoing ≠ some f → h ∉ s.spindle.waiting →
    let t := headCompleted h (.tool f cls out) res rem s
    let returned : Prop := c.returned = false → ∀ i p, c.outgoing = some i → s.spindle.rack[i]? = some p →
      let mode : RackMode := if p.brokenMark then .broken else if s.param .bitLife ≤ p.wear then .worn else .spare;
      (t.rackAt i).map (fun y => (y.mode, y.head, y.brokenMark, y.wear, y.cuts)) = some (mode, none, false, p.wear, p.cuts) ∧
        t.notice 19 = if mode = .worn then (s.notice 19).map (NoticeRec.raise (.toolWorn i h p.wear p.cuts)) else s.notice 19;
    (res = .ok → t.setup = s.setup ∧ (t.head h).state = .idle ∧ t.change h = none ∧ t.due h = false ∧
      t.rackAt f = some { q with mode := .mounted, head := some h, brokenMark := false, engaged := none } ∧ returned) ∧
    (res = .noBit → t.setup = s.setup ∧ ((t.head h).state = .changing ∨ (t.head h).state = .noTool) ∧
      t.rackAt f = some { q with mode := .empty, engaged := none } ∧
      (t.change h).map (fun y => (y.outgoing, y.returned)) = some (c.outgoing, true) ∧ returned) ∧
    (res ≠ .ok → res ≠ .noBit → headFaulted h .tool s t = true))
end

