-- ==== Sys2Proof/Laws/State.lean ====
section
/-! SUPPORT. What each named update of State leaves in each field: one lemma for each field, true by `rfl` or by the update's own
case split. And the laws of the values kept for each head and for each node. -/

namespace Sys2Proof.Machine

variable (s : State)

/-! ### State.setNode -/

@[simp] theorem State.setNode_pending (n : Node) (r : NodeRec) : (s.setNode n r).pending = s.pending := rfl
@[simp] theorem State.setNode_ring (n : Node) (r : NodeRec) : (s.setNode n r).ring = { s.ring with nodes := s.ring.nodes.set n r } := rfl
@[simp] theorem State.setNode_req (n : Node) (r : NodeRec) : (s.setNode n r).req = s.req := rfl
@[simp] theorem State.setNode_notices (n : Node) (r : NodeRec) : (s.setNode n r).notices = s.notices := rfl
@[simp] theorem State.setNode_recipes (n : Node) (r : NodeRec) : (s.setNode n r).recipes = s.recipes := rfl
@[simp] theorem State.setNode_locator (n : Node) (r : NodeRec) : (s.setNode n r).locator = s.locator := rfl
@[simp] theorem State.setNode_tracker (n : Node) (r : NodeRec) : (s.setNode n r).tracker = s.tracker := rfl
@[simp] theorem State.setNode_disp (n : Node) (r : NodeRec) : (s.setNode n r).disp = s.disp := rfl
@[simp] theorem State.setNode_spindle (n : Node) (r : NodeRec) : (s.setNode n r).spindle = s.spindle := rfl
@[simp] theorem State.setNode_hand (n : Node) (r : NodeRec) : (s.setNode n r).hand = s.hand := rfl
@[simp] theorem State.setNode_lines (n : Node) (r : NodeRec) : (s.setNode n r).lines = s.lines := rfl
@[simp] theorem State.setNode_ev (n : Node) (r : NodeRec) : (s.setNode n r).ev = s.ev := rfl
@[simp] theorem State.setNode_free (n : Node) (r : NodeRec) : (s.setNode n r).free = s.free := rfl

/-! ### writeOrder -/

@[simp] theorem writeOrder_pending (n : Node) (o : Order) : (writeOrder n o s).pending = s.pending := rfl
@[simp] theorem writeOrder_req (n : Node) (o : Order) : (writeOrder n o s).req = s.req := rfl
@[simp] theorem writeOrder_notices (n : Node) (o : Order) : (writeOrder n o s).notices = s.notices := rfl
@[simp] theorem writeOrder_recipes (n : Node) (o : Order) : (writeOrder n o s).recipes = s.recipes := rfl
@[simp] theorem writeOrder_locator (n : Node) (o : Order) : (writeOrder n o s).locator = s.locator := rfl
@[simp] theorem writeOrder_tracker (n : Node) (o : Order) : (writeOrder n o s).tracker = s.tracker := rfl
@[simp] theorem writeOrder_disp (n : Node) (o : Order) : (writeOrder n o s).disp = s.disp := rfl
@[simp] theorem writeOrder_spindle (n : Node) (o : Order) : (writeOrder n o s).spindle = s.spindle := rfl
@[simp] theorem writeOrder_hand (n : Node) (o : Order) : (writeOrder n o s).hand = s.hand := rfl
@[simp] theorem writeOrder_lines (n : Node) (o : Order) : (writeOrder n o s).lines = s.lines := rfl
@[simp] theorem writeOrder_ev (n : Node) (o : Order) : (writeOrder n o s).ev = s.ev := rfl
@[simp] theorem writeOrder_free (n : Node) (o : Order) : (writeOrder n o s).free = s.free := rfl

/-! ### setLatch -/

@[simp] theorem setLatch_pending (n : Node) (w : FaultReason) : (setLatch n w s).pending = s.pending := rfl
@[simp] theorem setLatch_req (n : Node) (w : FaultReason) : (setLatch n w s).req = s.req := rfl
@[simp] theorem setLatch_notices (n : Node) (w : FaultReason) : (setLatch n w s).notices = s.notices := rfl
@[simp] theorem setLatch_recipes (n : Node) (w : FaultReason) : (setLatch n w s).recipes = s.recipes := rfl
@[simp] theorem setLatch_locator (n : Node) (w : FaultReason) : (setLatch n w s).locator = s.locator := rfl
@[simp] theorem setLatch_tracker (n : Node) (w : FaultReason) : (setLatch n w s).tracker = s.tracker := rfl
@[simp] theorem setLatch_disp (n : Node) (w : FaultReason) : (setLatch n w s).disp = s.disp := rfl
@[simp] theorem setLatch_spindle (n : Node) (w : FaultReason) : (setLatch n w s).spindle = s.spindle := rfl
@[simp] theorem setLatch_hand (n : Node) (w : FaultReason) : (setLatch n w s).hand = s.hand := rfl
@[simp] theorem setLatch_lines (n : Node) (w : FaultReason) : (setLatch n w s).lines = s.lines := rfl
@[simp] theorem setLatch_ev (n : Node) (w : FaultReason) : (setLatch n w s).ev = s.ev := rfl
@[simp] theorem setLatch_free (n : Node) (w : FaultReason) : (setLatch n w s).free = s.free := rfl

/-! ### send -/

@[simp] theorem send_pending (q : Port) (l : List Byte) : (send q l s).pending = s.pending := rfl
@[simp] theorem send_ring (q : Port) (l : List Byte) : (send q l s).ring = { s.ring with sent := some ⟨q, l⟩ } := rfl
@[simp] theorem send_req (q : Port) (l : List Byte) : (send q l s).req = s.req := rfl
@[simp] theorem send_notices (q : Port) (l : List Byte) : (send q l s).notices = s.notices := rfl
@[simp] theorem send_recipes (q : Port) (l : List Byte) : (send q l s).recipes = s.recipes := rfl
@[simp] theorem send_locator (q : Port) (l : List Byte) : (send q l s).locator = s.locator := rfl
@[simp] theorem send_tracker (q : Port) (l : List Byte) : (send q l s).tracker = s.tracker := rfl
@[simp] theorem send_disp (q : Port) (l : List Byte) : (send q l s).disp = s.disp := rfl
@[simp] theorem send_spindle (q : Port) (l : List Byte) : (send q l s).spindle = s.spindle := rfl
@[simp] theorem send_hand (q : Port) (l : List Byte) : (send q l s).hand = s.hand := rfl
@[simp] theorem send_lines (q : Port) (l : List Byte) : (send q l s).lines = s.lines := rfl
@[simp] theorem send_ev (q : Port) (l : List Byte) : (send q l s).ev = s.ev := rfl
@[simp] theorem send_free (q : Port) (l : List Byte) : (send q l s).free = s.free := rfl

/-! ### restartSilence -/

@[simp] theorem restartSilence_pending : (restartSilence s).pending = s.pending := rfl
@[simp] theorem restartSilence_req : (restartSilence s).req = s.req := rfl
@[simp] theorem restartSilence_notices : (restartSilence s).notices = s.notices := rfl
@[simp] theorem restartSilence_recipes : (restartSilence s).recipes = s.recipes := rfl
@[simp] theorem restartSilence_locator : (restartSilence s).locator = s.locator := rfl
@[simp] theorem restartSilence_tracker : (restartSilence s).tracker = s.tracker := rfl
@[simp] theorem restartSilence_disp : (restartSilence s).disp = s.disp := rfl
@[simp] theorem restartSilence_spindle : (restartSilence s).spindle = s.spindle := rfl
@[simp] theorem restartSilence_hand : (restartSilence s).hand = s.hand := rfl
@[simp] theorem restartSilence_lines : (restartSilence s).lines = s.lines := rfl
@[simp] theorem restartSilence_ev : (restartSilence s).ev = s.ev := rfl
@[simp] theorem restartSilence_free : (restartSilence s).free = s.free := rfl

/-! ### State.setPort -/

@[simp] theorem State.setPort_pending (q : Port) (r : PortRec) : (s.setPort q r).pending = s.pending := by cases q <;> rfl
@[simp] theorem State.setPort_req (q : Port) (r : PortRec) : (s.setPort q r).req = s.req := by cases q <;> rfl
@[simp] theorem State.setPort_notices (q : Port) (r : PortRec) : (s.setPort q r).notices = s.notices := by cases q <;> rfl
@[simp] theorem State.setPort_recipes (q : Port) (r : PortRec) : (s.setPort q r).recipes = s.recipes := by cases q <;> rfl
@[simp] theorem State.setPort_locator (q : Port) (r : PortRec) : (s.setPort q r).locator = s.locator := by cases q <;> rfl
@[simp] theorem State.setPort_tracker (q : Port) (r : PortRec) : (s.setPort q r).tracker = s.tracker := by cases q <;> rfl
@[simp] theorem State.setPort_disp (q : Port) (r : PortRec) : (s.setPort q r).disp = s.disp := by cases q <;> rfl
@[simp] theorem State.setPort_spindle (q : Port) (r : PortRec) : (s.setPort q r).spindle = s.spindle := by cases q <;> rfl
@[simp] theorem State.setPort_hand (q : Port) (r : PortRec) : (s.setPort q r).hand = s.hand := by cases q <;> rfl
@[simp] theorem State.setPort_lines (q : Port) (r : PortRec) : (s.setPort q r).lines = s.lines := by cases q <;> rfl
@[simp] theorem State.setPort_ev (q : Port) (r : PortRec) : (s.setPort q r).ev = s.ev := by cases q <;> rfl
@[simp] theorem State.setPort_free (q : Port) (r : PortRec) : (s.setPort q r).free = s.free := by cases q <;> rfl

/-! ### pushReply -/

@[simp] theorem pushReply_pending (r : Reply) : (pushReply r s).pending = s.pending := rfl
@[simp] theorem pushReply_ring (r : Reply) : (pushReply r s).ring = s.ring := rfl
@[simp] theorem pushReply_req (r : Reply) : (pushReply r s).req = { s.req with replies := s.req.replies ++ [r] } := rfl
@[simp] theorem pushReply_notices (r : Reply) : (pushReply r s).notices = s.notices := rfl
@[simp] theorem pushReply_recipes (r : Reply) : (pushReply r s).recipes = s.recipes := rfl
@[simp] theorem pushReply_locator (r : Reply) : (pushReply r s).locator = s.locator := rfl
@[simp] theorem pushReply_tracker (r : Reply) : (pushReply r s).tracker = s.tracker := rfl
@[simp] theorem pushReply_disp (r : Reply) : (pushReply r s).disp = s.disp := rfl
@[simp] theorem pushReply_spindle (r : Reply) : (pushReply r s).spindle = s.spindle := rfl
@[simp] theorem pushReply_hand (r : Reply) : (pushReply r s).hand = s.hand := rfl
@[simp] theorem pushReply_lines (r : Reply) : (pushReply r s).lines = s.lines := rfl
@[simp] theorem pushReply_ev (r : Reply) : (pushReply r s).ev = s.ev := rfl
@[simp] theorem pushReply_free (r : Reply) : (pushReply r s).free = s.free := rfl

/-! ### State.setRequests -/

@[simp] theorem State.setRequests_pending (l : List Request) : (s.setRequests l).pending = s.pending := rfl
@[simp] theorem State.setRequests_ring (l : List Request) : (s.setRequests l).ring = s.ring := rfl
@[simp] theorem State.setRequests_req (l : List Request) : (s.setRequests l).req = { s.req with requests := l } := rfl
@[simp] theorem State.setRequests_notices (l : List Request) : (s.setRequests l).notices = s.notices := rfl
@[simp] theorem State.setRequests_recipes (l : List Request) : (s.setRequests l).recipes = s.recipes := rfl
@[simp] theorem State.setRequests_locator (l : List Request) : (s.setRequests l).locator = s.locator := rfl
@[simp] theorem State.setRequests_tracker (l : List Request) : (s.setRequests l).tracker = s.tracker := rfl
@[simp] theorem State.setRequests_disp (l : List Request) : (s.setRequests l).disp = s.disp := rfl
@[simp] theorem State.setRequests_spindle (l : List Request) : (s.setRequests l).spindle = s.spindle := rfl
@[simp] theorem State.setRequests_hand (l : List Request) : (s.setRequests l).hand = s.hand := rfl
@[simp] theorem State.setRequests_lines (l : List Request) : (s.setRequests l).lines = s.lines := rfl
@[simp] theorem State.setRequests_ev (l : List Request) : (s.setRequests l).ev = s.ev := rfl
@[simp] theorem State.setRequests_free (l : List Request) : (s.setRequests l).free = s.free := rfl

/-! ### State.setParam -/

@[simp] theorem State.setParam_pending (n v : Nat) : (s.setParam n v).pending = s.pending := rfl
@[simp] theorem State.setParam_ring (n v : Nat) : (s.setParam n v).ring = s.ring := rfl
@[simp] theorem State.setParam_req (n v : Nat) : (s.setParam n v).req = { s.req with params := s.req.params.set n v } := rfl
@[simp] theorem State.setParam_notices (n v : Nat) : (s.setParam n v).notices = s.notices := rfl
@[simp] theorem State.setParam_recipes (n v : Nat) : (s.setParam n v).recipes = s.recipes := rfl
@[simp] theorem State.setParam_locator (n v : Nat) : (s.setParam n v).locator = s.locator := rfl
@[simp] theorem State.setParam_tracker (n v : Nat) : (s.setParam n v).tracker = s.tracker := rfl
@[simp] theorem State.setParam_disp (n v : Nat) : (s.setParam n v).disp = s.disp := rfl
@[simp] theorem State.setParam_spindle (n v : Nat) : (s.setParam n v).spindle = s.spindle := rfl
@[simp] theorem State.setParam_hand (n v : Nat) : (s.setParam n v).hand = s.hand := rfl
@[simp] theorem State.setParam_lines (n v : Nat) : (s.setParam n v).lines = s.lines := rfl
@[simp] theorem State.setParam_ev (n v : Nat) : (s.setParam n v).ev = s.ev := rfl
@[simp] theorem State.setParam_free (n v : Nat) : (s.setParam n v).free = s.free := rfl

/-! ### raise -/

@[simp] theorem raise_pending (d : Detail) : (raise d s).pending = s.pending := rfl
@[simp] theorem raise_ring (d : Detail) : (raise d s).ring = s.ring := rfl
@[simp] theorem raise_req (d : Detail) : (raise d s).req = s.req := rfl
@[simp] theorem raise_notices (d : Detail) : (raise d s).notices = { s.notices with recs := s.notices.recs.modify d.cls (NoticeRec.raise d) } := rfl
@[simp] theorem raise_recipes (d : Detail) : (raise d s).recipes = s.recipes := rfl
@[simp] theorem raise_locator (d : Detail) : (raise d s).locator = s.locator := rfl
@[simp] theorem raise_tracker (d : Detail) : (raise d s).tracker = s.tracker := rfl
@[simp] theorem raise_disp (d : Detail) : (raise d s).disp = s.disp := rfl
@[simp] theorem raise_spindle (d : Detail) : (raise d s).spindle = s.spindle := rfl
@[simp] theorem raise_hand (d : Detail) : (raise d s).hand = s.hand := rfl
@[simp] theorem raise_lines (d : Detail) : (raise d s).lines = s.lines := rfl
@[simp] theorem raise_ev (d : Detail) : (raise d s).ev = s.ev := rfl
@[simp] theorem raise_free (d : Detail) : (raise d s).free = s.free := rfl

/-! ### clearNotices -/

@[simp] theorem clearNotices_pending : (clearNotices s).pending = s.pending := rfl
@[simp] theorem clearNotices_ring : (clearNotices s).ring = s.ring := rfl
@[simp] theorem clearNotices_req : (clearNotices s).req = s.req := rfl
@[simp] theorem clearNotices_notices : (clearNotices s).notices = { s.notices with recs := s.notices.recs.map NoticeRec.clear } := rfl
@[simp] theorem clearNotices_recipes : (clearNotices s).recipes = s.recipes := rfl
@[simp] theorem clearNotices_locator : (clearNotices s).locator = s.locator := rfl
@[simp] theorem clearNotices_tracker : (clearNotices s).tracker = s.tracker := rfl
@[simp] theorem clearNotices_disp : (clearNotices s).disp = s.disp := rfl
@[simp] theorem clearNotices_spindle : (clearNotices s).spindle = s.spindle := rfl
@[simp] theorem clearNotices_hand : (clearNotices s).hand = s.hand := rfl
@[simp] theorem clearNotices_lines : (clearNotices s).lines = s.lines := rfl
@[simp] theorem clearNotices_ev : (clearNotices s).ev = s.ev := rfl
@[simp] theorem clearNotices_free : (clearNotices s).free = s.free := rfl

/-! ### State.modSlot -/

@[simp] theorem State.modSlot_pending (i : Nat) (f : RecipeSlot → RecipeSlot) : (s.modSlot i f).pending = s.pending := rfl
@[simp] theorem State.modSlot_ring (i : Nat) (f : RecipeSlot → RecipeSlot) : (s.modSlot i f).ring = s.ring := rfl
@[simp] theorem State.modSlot_req (i : Nat) (f : RecipeSlot → RecipeSlot) : (s.modSlot i f).req = s.req := rfl
@[simp] theorem State.modSlot_notices (i : Nat) (f : RecipeSlot → RecipeSlot) : (s.modSlot i f).notices = s.notices := rfl
@[simp] theorem State.modSlot_recipes (i : Nat) (f : RecipeSlot → RecipeSlot) : (s.modSlot i f).recipes = { s.recipes with slots := s.recipes.slots.modify i f } := rfl
@[simp] theorem State.modSlot_locator (i : Nat) (f : RecipeSlot → RecipeSlot) : (s.modSlot i f).locator = s.locator := rfl
@[simp] theorem State.modSlot_tracker (i : Nat) (f : RecipeSlot → RecipeSlot) : (s.modSlot i f).tracker = s.tracker := rfl
@[simp] theorem State.modSlot_disp (i : Nat) (f : RecipeSlot → RecipeSlot) : (s.modSlot i f).disp = s.disp := rfl
@[simp] theorem State.modSlot_spindle (i : Nat) (f : RecipeSlot → RecipeSlot) : (s.modSlot i f).spindle = s.spindle := rfl
@[simp] theorem State.modSlot_hand (i : Nat) (f : RecipeSlot → RecipeSlot) : (s.modSlot i f).hand = s.hand := rfl
@[simp] theorem State.modSlot_lines (i : Nat) (f : RecipeSlot → RecipeSlot) : (s.modSlot i f).lines = s.lines := rfl
@[simp] theorem State.modSlot_ev (i : Nat) (f : RecipeSlot → RecipeSlot) : (s.modSlot i f).ev = s.ev := rfl
@[simp] theorem State.modSlot_free (i : Nat) (f : RecipeSlot → RecipeSlot) : (s.modSlot i f).free = s.free := rfl

/-! ### State.modLoc -/

@[simp] theorem State.modLoc_pending (f : LocRec → LocRec) : (s.modLoc f).pending = s.pending := rfl
@[simp] theorem State.modLoc_ring (f : LocRec → LocRec) : (s.modLoc f).ring = s.ring := rfl
@[simp] theorem State.modLoc_req (f : LocRec → LocRec) : (s.modLoc f).req = s.req := rfl
@[simp] theorem State.modLoc_notices (f : LocRec → LocRec) : (s.modLoc f).notices = s.notices := rfl
@[simp] theorem State.modLoc_recipes (f : LocRec → LocRec) : (s.modLoc f).recipes = s.recipes := rfl
@[simp] theorem State.modLoc_locator (f : LocRec → LocRec) : (s.modLoc f).locator = { s.locator with active := f s.locator.active } := rfl
@[simp] theorem State.modLoc_tracker (f : LocRec → LocRec) : (s.modLoc f).tracker = s.tracker := rfl
@[simp] theorem State.modLoc_disp (f : LocRec → LocRec) : (s.modLoc f).disp = s.disp := rfl
@[simp] theorem State.modLoc_spindle (f : LocRec → LocRec) : (s.modLoc f).spindle = s.spindle := rfl
@[simp] theorem State.modLoc_hand (f : LocRec → LocRec) : (s.modLoc f).hand = s.hand := rfl
@[simp] theorem State.modLoc_lines (f : LocRec → LocRec) : (s.modLoc f).lines = s.lines := rfl
@[simp] theorem State.modLoc_ev (f : LocRec → LocRec) : (s.modLoc f).ev = s.ev := rfl
@[simp] theorem State.modLoc_free (f : LocRec → LocRec) : (s.modLoc f).free = s.free := rfl

/-! ### leavePickQueue -/

@[simp] theorem leavePickQueue_pending (b : Nat) : (leavePickQueue b s).pending = s.pending := rfl
@[simp] theorem leavePickQueue_ring (b : Nat) : (leavePickQueue b s).ring = s.ring := rfl
@[simp] theorem leavePickQueue_req (b : Nat) : (leavePickQueue b s).req = s.req := rfl
@[simp] theorem leavePickQueue_notices (b : Nat) : (leavePickQueue b s).notices = s.notices := rfl
@[simp] theorem leavePickQueue_recipes (b : Nat) : (leavePickQueue b s).recipes = s.recipes := rfl
@[simp] theorem leavePickQueue_locator (b : Nat) : (leavePickQueue b s).locator = s.locator := rfl
@[simp] theorem leavePickQueue_tracker (b : Nat) : (leavePickQueue b s).tracker = { s.tracker with pickQueue := s.tracker.pickQueue.filter (· != b) } := rfl
@[simp] theorem leavePickQueue_disp (b : Nat) : (leavePickQueue b s).disp = s.disp := rfl
@[simp] theorem leavePickQueue_spindle (b : Nat) : (leavePickQueue b s).spindle = s.spindle := rfl
@[simp] theorem leavePickQueue_hand (b : Nat) : (leavePickQueue b s).hand = s.hand := rfl
@[simp] theorem leavePickQueue_lines (b : Nat) : (leavePickQueue b s).lines = s.lines := rfl
@[simp] theorem leavePickQueue_ev (b : Nat) : (leavePickQueue b s).ev = s.ev := rfl
@[simp] theorem leavePickQueue_free (b : Nat) : (leavePickQueue b s).free = s.free := rfl

/-! ### joinPickBack -/

@[simp] theorem joinPickBack_pending (b : Nat) : (joinPickBack b s).pending = s.pending := rfl
@[simp] theorem joinPickBack_ring (b : Nat) : (joinPickBack b s).ring = s.ring := rfl
@[simp] theorem joinPickBack_req (b : Nat) : (joinPickBack b s).req = s.req := rfl
@[simp] theorem joinPickBack_notices (b : Nat) : (joinPickBack b s).notices = s.notices := rfl
@[simp] theorem joinPickBack_recipes (b : Nat) : (joinPickBack b s).recipes = s.recipes := rfl
@[simp] theorem joinPickBack_locator (b : Nat) : (joinPickBack b s).locator = s.locator := rfl
@[simp] theorem joinPickBack_tracker (b : Nat) : (joinPickBack b s).tracker = { s.tracker with pickQueue := s.tracker.pickQueue ++ [b] } := rfl
@[simp] theorem joinPickBack_disp (b : Nat) : (joinPickBack b s).disp = s.disp := rfl
@[simp] theorem joinPickBack_spindle (b : Nat) : (joinPickBack b s).spindle = s.spindle := rfl
@[simp] theorem joinPickBack_hand (b : Nat) : (joinPickBack b s).hand = s.hand := rfl
@[simp] theorem joinPickBack_lines (b : Nat) : (joinPickBack b s).lines = s.lines := rfl
@[simp] theorem joinPickBack_ev (b : Nat) : (joinPickBack b s).ev = { s.ev with select := true } := rfl
@[simp] theorem joinPickBack_free (b : Nat) : (joinPickBack b s).free = s.free := rfl

/-! ### joinPickFront -/

@[simp] theorem joinPickFront_pending (b : Nat) : (joinPickFront b s).pending = s.pending := rfl
@[simp] theorem joinPickFront_ring (b : Nat) : (joinPickFront b s).ring = s.ring := rfl
@[simp] theorem joinPickFront_req (b : Nat) : (joinPickFront b s).req = s.req := rfl
@[simp] theorem joinPickFront_notices (b : Nat) : (joinPickFront b s).notices = s.notices := rfl
@[simp] theorem joinPickFront_recipes (b : Nat) : (joinPickFront b s).recipes = s.recipes := rfl
@[simp] theorem joinPickFront_locator (b : Nat) : (joinPickFront b s).locator = s.locator := rfl
@[simp] theorem joinPickFront_tracker (b : Nat) : (joinPickFront b s).tracker = { s.tracker with pickQueue := b :: s.tracker.pickQueue } := rfl
@[simp] theorem joinPickFront_disp (b : Nat) : (joinPickFront b s).disp = s.disp := rfl
@[simp] theorem joinPickFront_spindle (b : Nat) : (joinPickFront b s).spindle = s.spindle := rfl
@[simp] theorem joinPickFront_hand (b : Nat) : (joinPickFront b s).hand = s.hand := rfl
@[simp] theorem joinPickFront_lines (b : Nat) : (joinPickFront b s).lines = s.lines := rfl
@[simp] theorem joinPickFront_ev (b : Nat) : (joinPickFront b s).ev = { s.ev with select := true } := rfl
@[simp] theorem joinPickFront_free (b : Nat) : (joinPickFront b s).free = s.free := rfl

/-! ### State.modPanel -/

@[simp] theorem State.modPanel_pending (q : PanelRef) (f : Panel → Panel) : (s.modPanel q f).pending = s.pending := by cases q <;> rfl
@[simp] theorem State.modPanel_ring (q : PanelRef) (f : Panel → Panel) : (s.modPanel q f).ring = s.ring := by cases q <;> rfl
@[simp] theorem State.modPanel_req (q : PanelRef) (f : Panel → Panel) : (s.modPanel q f).req = s.req := by cases q <;> rfl
@[simp] theorem State.modPanel_notices (q : PanelRef) (f : Panel → Panel) : (s.modPanel q f).notices = s.notices := by cases q <;> rfl
@[simp] theorem State.modPanel_recipes (q : PanelRef) (f : Panel → Panel) : (s.modPanel q f).recipes = s.recipes := by cases q <;> rfl
@[simp] theorem State.modPanel_locator (q : PanelRef) (f : Panel → Panel) : (s.modPanel q f).locator = s.locator := by cases q <;> rfl
@[simp] theorem State.modPanel_disp (q : PanelRef) (f : Panel → Panel) : (s.modPanel q f).disp = s.disp := by cases q <;> rfl
@[simp] theorem State.modPanel_spindle (q : PanelRef) (f : Panel → Panel) : (s.modPanel q f).spindle = s.spindle := by cases q <;> rfl
@[simp] theorem State.modPanel_hand (q : PanelRef) (f : Panel → Panel) : (s.modPanel q f).hand = s.hand := by cases q <;> rfl
@[simp] theorem State.modPanel_lines (q : PanelRef) (f : Panel → Panel) : (s.modPanel q f).lines = s.lines := by cases q <;> rfl
@[simp] theorem State.modPanel_ev (q : PanelRef) (f : Panel → Panel) : (s.modPanel q f).ev = s.ev := by cases q <;> rfl
@[simp] theorem State.modPanel_free (q : PanelRef) (f : Panel → Panel) : (s.modPanel q f).free = s.free := by cases q <;> rfl

/-! ### State.setHalf -/

@[simp] theorem State.setHalf_pending (h : Half) (l : List Board) : (s.setHalf h l).pending = s.pending := by cases h <;> rfl
@[simp] theorem State.setHalf_ring (h : Half) (l : List Board) : (s.setHalf h l).ring = s.ring := by cases h <;> rfl
@[simp] theorem State.setHalf_req (h : Half) (l : List Board) : (s.setHalf h l).req = s.req := by cases h <;> rfl
@[simp] theorem State.setHalf_notices (h : Half) (l : List Board) : (s.setHalf h l).notices = s.notices := by cases h <;> rfl
@[simp] theorem State.setHalf_recipes (h : Half) (l : List Board) : (s.setHalf h l).recipes = s.recipes := by cases h <;> rfl
@[simp] theorem State.setHalf_locator (h : Half) (l : List Board) : (s.setHalf h l).locator = s.locator := by cases h <;> rfl
@[simp] theorem State.setHalf_disp (h : Half) (l : List Board) : (s.setHalf h l).disp = s.disp := by cases h <;> rfl
@[simp] theorem State.setHalf_spindle (h : Half) (l : List Board) : (s.setHalf h l).spindle = s.spindle := by cases h <;> rfl
@[simp] theorem State.setHalf_hand (h : Half) (l : List Board) : (s.setHalf h l).hand = s.hand := by cases h <;> rfl
@[simp] theorem State.setHalf_lines (h : Half) (l : List Board) : (s.setHalf h l).lines = s.lines := by cases h <;> rfl
@[simp] theorem State.setHalf_ev (h : Half) (l : List Board) : (s.setHalf h l).ev = s.ev := by cases h <;> rfl
@[simp] theorem State.setHalf_free (h : Half) (l : List Board) : (s.setHalf h l).free = s.free := by cases h <;> rfl

/-! ### State.modTab -/

@[simp] theorem State.modTab_pending (i : Nat) (f : Tab → Tab) : (s.modTab i f).pending = s.pending := rfl
@[simp] theorem State.modTab_ring (i : Nat) (f : Tab → Tab) : (s.modTab i f).ring = s.ring := rfl
@[simp] theorem State.modTab_req (i : Nat) (f : Tab → Tab) : (s.modTab i f).req = s.req := rfl
@[simp] theorem State.modTab_notices (i : Nat) (f : Tab → Tab) : (s.modTab i f).notices = s.notices := rfl
@[simp] theorem State.modTab_recipes (i : Nat) (f : Tab → Tab) : (s.modTab i f).recipes = s.recipes := rfl
@[simp] theorem State.modTab_locator (i : Nat) (f : Tab → Tab) : (s.modTab i f).locator = s.locator := rfl
@[simp] theorem State.modTab_tracker (i : Nat) (f : Tab → Tab) : (s.modTab i f).tracker = s.tracker := rfl
@[simp] theorem State.modTab_disp (i : Nat) (f : Tab → Tab) : (s.modTab i f).disp = { s.disp with tabs := s.disp.tabs.modify i f } := rfl
@[simp] theorem State.modTab_spindle (i : Nat) (f : Tab → Tab) : (s.modTab i f).spindle = s.spindle := rfl
@[simp] theorem State.modTab_hand (i : Nat) (f : Tab → Tab) : (s.modTab i f).hand = s.hand := rfl
@[simp] theorem State.modTab_lines (i : Nat) (f : Tab → Tab) : (s.modTab i f).lines = s.lines := rfl
@[simp] theorem State.modTab_ev (i : Nat) (f : Tab → Tab) : (s.modTab i f).ev = s.ev := rfl
@[simp] theorem State.modTab_free (i : Nat) (f : Tab → Tab) : (s.modTab i f).free = s.free := rfl

/-! ### State.setHead -/

@[simp] theorem State.setHead_pending (h : Head) (r : HeadRec) : (s.setHead h r).pending = s.pending := rfl
@[simp] theorem State.setHead_ring (h : Head) (r : HeadRec) : (s.setHead h r).ring = s.ring := rfl
@[simp] theorem State.setHead_req (h : Head) (r : HeadRec) : (s.setHead h r).req = s.req := rfl
@[simp] theorem State.setHead_notices (h : Head) (r : HeadRec) : (s.setHead h r).notices = s.notices := rfl
@[simp] theorem State.setHead_recipes (h : Head) (r : HeadRec) : (s.setHead h r).recipes = s.recipes := rfl
@[simp] theorem State.setHead_locator (h : Head) (r : HeadRec) : (s.setHead h r).locator = s.locator := rfl
@[simp] theorem State.setHead_tracker (h : Head) (r : HeadRec) : (s.setHead h r).tracker = s.tracker := rfl
@[simp] theorem State.setHead_disp (h : Head) (r : HeadRec) : (s.setHead h r).disp = { s.disp with heads := s.disp.heads.set h r } := rfl
@[simp] theorem State.setHead_spindle (h : Head) (r : HeadRec) : (s.setHead h r).spindle = s.spindle := rfl
@[simp] theorem State.setHead_hand (h : Head) (r : HeadRec) : (s.setHead h r).hand = s.hand := rfl
@[simp] theorem State.setHead_lines (h : Head) (r : HeadRec) : (s.setHead h r).lines = s.lines := rfl
@[simp] theorem State.setHead_ev (h : Head) (r : HeadRec) : (s.setHead h r).ev = s.ev := rfl
@[simp] theorem State.setHead_free (h : Head) (r : HeadRec) : (s.setHead h r).free = s.free := rfl

/-! ### State.modHead -/

@[simp] theorem State.modHead_pending (h : Head) (f : HeadRec → HeadRec) : (s.modHead h f).pending = s.pending := rfl
@[simp] theorem State.modHead_ring (h : Head) (f : HeadRec → HeadRec) : (s.modHead h f).ring = s.ring := rfl
@[simp] theorem State.modHead_req (h : Head) (f : HeadRec → HeadRec) : (s.modHead h f).req = s.req := rfl
@[simp] theorem State.modHead_notices (h : Head) (f : HeadRec → HeadRec) : (s.modHead h f).notices = s.notices := rfl
@[simp] theorem State.modHead_recipes (h : Head) (f : HeadRec → HeadRec) : (s.modHead h f).recipes = s.recipes := rfl
@[simp] theorem State.modHead_locator (h : Head) (f : HeadRec → HeadRec) : (s.modHead h f).locator = s.locator := rfl
@[simp] theorem State.modHead_tracker (h : Head) (f : HeadRec → HeadRec) : (s.modHead h f).tracker = s.tracker := rfl
@[simp] theorem State.modHead_disp (h : Head) (f : HeadRec → HeadRec) : (s.modHead h f).disp = { s.disp with heads := s.disp.heads.set h (f (s.head h)) } := rfl
@[simp] theorem State.modHead_spindle (h : Head) (f : HeadRec → HeadRec) : (s.modHead h f).spindle = s.spindle := rfl
@[simp] theorem State.modHead_hand (h : Head) (f : HeadRec → HeadRec) : (s.modHead h f).hand = s.hand := rfl
@[simp] theorem State.modHead_lines (h : Head) (f : HeadRec → HeadRec) : (s.modHead h f).lines = s.lines := rfl
@[simp] theorem State.modHead_ev (h : Head) (f : HeadRec → HeadRec) : (s.modHead h f).ev = s.ev := rfl
@[simp] theorem State.modHead_free (h : Head) (f : HeadRec → HeadRec) : (s.modHead h f).free = s.free := rfl

/-! ### setHeadState -/

@[simp] theorem setHeadState_pending (h : Head) (st : HeadState) : (setHeadState h st s).pending = s.pending := rfl
@[simp] theorem setHeadState_ring (h : Head) (st : HeadState) : (setHeadState h st s).ring = s.ring := rfl
@[simp] theorem setHeadState_req (h : Head) (st : HeadState) : (setHeadState h st s).req = s.req := rfl
@[simp] theorem setHeadState_notices (h : Head) (st : HeadState) : (setHeadState h st s).notices = s.notices := rfl
@[simp] theorem setHeadState_recipes (h : Head) (st : HeadState) : (setHeadState h st s).recipes = s.recipes := rfl
@[simp] theorem setHeadState_locator (h : Head) (st : HeadState) : (setHeadState h st s).locator = s.locator := rfl
@[simp] theorem setHeadState_tracker (h : Head) (st : HeadState) : (setHeadState h st s).tracker = s.tracker := rfl
@[simp] theorem setHeadState_spindle (h : Head) (st : HeadState) : (setHeadState h st s).spindle = s.spindle := rfl
@[simp] theorem setHeadState_hand (h : Head) (st : HeadState) : (setHeadState h st s).hand = s.hand := rfl
@[simp] theorem setHeadState_lines (h : Head) (st : HeadState) : (setHeadState h st s).lines = s.lines := rfl
@[simp] theorem setHeadState_ev (h : Head) (st : HeadState) : (setHeadState h st s).ev = s.ev := rfl
@[simp] theorem setHeadState_free (h : Head) (st : HeadState) : (setHeadState h st s).free = s.free := rfl

/-! ### leaveLists -/

@[simp] theorem leaveLists_pending (i : Nat) : (leaveLists i s).pending = s.pending := rfl
@[simp] theorem leaveLists_ring (i : Nat) : (leaveLists i s).ring = s.ring := rfl
@[simp] theorem leaveLists_req (i : Nat) : (leaveLists i s).req = s.req := rfl
@[simp] theorem leaveLists_notices (i : Nat) : (leaveLists i s).notices = s.notices := rfl
@[simp] theorem leaveLists_recipes (i : Nat) : (leaveLists i s).recipes = s.recipes := rfl
@[simp] theorem leaveLists_locator (i : Nat) : (leaveLists i s).locator = s.locator := rfl
@[simp] theorem leaveLists_tracker (i : Nat) : (leaveLists i s).tracker = s.tracker := rfl
@[simp] theorem leaveLists_spindle (i : Nat) : (leaveLists i s).spindle = s.spindle := rfl
@[simp] theorem leaveLists_hand (i : Nat) : (leaveLists i s).hand = s.hand := rfl
@[simp] theorem leaveLists_lines (i : Nat) : (leaveLists i s).lines = s.lines := rfl
@[simp] theorem leaveLists_ev (i : Nat) : (leaveLists i s).ev = s.ev := rfl
@[simp] theorem leaveLists_free (i : Nat) : (leaveLists i s).free = s.free := rfl

/-! ### State.setFilter -/

@[simp] theorem State.setFilter_pending (h : Head) (f : Filter) : (s.setFilter h f).pending = s.pending := rfl
@[simp] theorem State.setFilter_ring (h : Head) (f : Filter) : (s.setFilter h f).ring = s.ring := rfl
@[simp] theorem State.setFilter_req (h : Head) (f : Filter) : (s.setFilter h f).req = s.req := rfl
@[simp] theorem State.setFilter_notices (h : Head) (f : Filter) : (s.setFilter h f).notices = s.notices := rfl
@[simp] theorem State.setFilter_recipes (h : Head) (f : Filter) : (s.setFilter h f).recipes = s.recipes := rfl
@[simp] theorem State.setFilter_locator (h : Head) (f : Filter) : (s.setFilter h f).locator = s.locator := rfl
@[simp] theorem State.setFilter_tracker (h : Head) (f : Filter) : (s.setFilter h f).tracker = s.tracker := rfl
@[simp] theorem State.setFilter_disp (h : Head) (f : Filter) : (s.setFilter h f).disp = s.disp := rfl
@[simp] theorem State.setFilter_spindle (h : Head) (f : Filter) : (s.setFilter h f).spindle = { s.spindle with filters := s.spindle.filters.set h f } := rfl
@[simp] theorem State.setFilter_hand (h : Head) (f : Filter) : (s.setFilter h f).hand = s.hand := rfl
@[simp] theorem State.setFilter_lines (h : Head) (f : Filter) : (s.setFilter h f).lines = s.lines := rfl
@[simp] theorem State.setFilter_ev (h : Head) (f : Filter) : (s.setFilter h f).ev = s.ev := rfl
@[simp] theorem State.setFilter_free (h : Head) (f : Filter) : (s.setFilter h f).free = s.free := rfl

/-! ### State.modRack -/

@[simp] theorem State.modRack_pending (i : Nat) (f : RackPos → RackPos) : (s.modRack i f).pending = s.pending := rfl
@[simp] theorem State.modRack_ring (i : Nat) (f : RackPos → RackPos) : (s.modRack i f).ring = s.ring := rfl
@[simp] theorem State.modRack_req (i : Nat) (f : RackPos → RackPos) : (s.modRack i f).req = s.req := rfl
@[simp] theorem State.modRack_notices (i : Nat) (f : RackPos → RackPos) : (s.modRack i f).notices = s.notices := rfl
@[simp] theorem State.modRack_recipes (i : Nat) (f : RackPos → RackPos) : (s.modRack i f).recipes = s.recipes := rfl
@[simp] theorem State.modRack_locator (i : Nat) (f : RackPos → RackPos) : (s.modRack i f).locator = s.locator := rfl
@[simp] theorem State.modRack_tracker (i : Nat) (f : RackPos → RackPos) : (s.modRack i f).tracker = s.tracker := rfl
@[simp] theorem State.modRack_disp (i : Nat) (f : RackPos → RackPos) : (s.modRack i f).disp = s.disp := rfl
@[simp] theorem State.modRack_spindle (i : Nat) (f : RackPos → RackPos) : (s.modRack i f).spindle = { s.spindle with rack := s.spindle.rack.modify i f } := rfl
@[simp] theorem State.modRack_hand (i : Nat) (f : RackPos → RackPos) : (s.modRack i f).hand = s.hand := rfl
@[simp] theorem State.modRack_lines (i : Nat) (f : RackPos → RackPos) : (s.modRack i f).lines = s.lines := rfl
@[simp] theorem State.modRack_ev (i : Nat) (f : RackPos → RackPos) : (s.modRack i f).ev = s.ev := rfl
@[simp] theorem State.modRack_free (i : Nat) (f : RackPos → RackPos) : (s.modRack i f).free = s.free := rfl

/-! ### State.setDue -/

@[simp] theorem State.setDue_pending (h : Head) (v : Bool) : (s.setDue h v).pending = s.pending := rfl
@[simp] theorem State.setDue_ring (h : Head) (v : Bool) : (s.setDue h v).ring = s.ring := rfl
@[simp] theorem State.setDue_req (h : Head) (v : Bool) : (s.setDue h v).req = s.req := rfl
@[simp] theorem State.setDue_notices (h : Head) (v : Bool) : (s.setDue h v).notices = s.notices := rfl
@[simp] theorem State.setDue_recipes (h : Head) (v : Bool) : (s.setDue h v).recipes = s.recipes := rfl
@[simp] theorem State.setDue_locator (h : Head) (v : Bool) : (s.setDue h v).locator = s.locator := rfl
@[simp] theorem State.setDue_tracker (h : Head) (v : Bool) : (s.setDue h v).tracker = s.tracker := rfl
@[simp] theorem State.setDue_disp (h : Head) (v : Bool) : (s.setDue h v).disp = s.disp := rfl
@[simp] theorem State.setDue_spindle (h : Head) (v : Bool) : (s.setDue h v).spindle = { s.spindle with due := s.spindle.due.set h v } := rfl
@[simp] theorem State.setDue_hand (h : Head) (v : Bool) : (s.setDue h v).hand = s.hand := rfl
@[simp] theorem State.setDue_lines (h : Head) (v : Bool) : (s.setDue h v).lines = s.lines := rfl
@[simp] theorem State.setDue_ev (h : Head) (v : Bool) : (s.setDue h v).ev = s.ev := rfl
@[simp] theorem State.setDue_free (h : Head) (v : Bool) : (s.setDue h v).free = s.free := rfl

/-! ### State.setChange -/

@[simp] theorem State.setChange_pending (h : Head) (c : Option Change) : (s.setChange h c).pending = s.pending := rfl
@[simp] theorem State.setChange_ring (h : Head) (c : Option Change) : (s.setChange h c).ring = s.ring := rfl
@[simp] theorem State.setChange_req (h : Head) (c : Option Change) : (s.setChange h c).req = s.req := rfl
@[simp] theorem State.setChange_notices (h : Head) (c : Option Change) : (s.setChange h c).notices = s.notices := rfl
@[simp] theorem State.setChange_recipes (h : Head) (c : Option Change) : (s.setChange h c).recipes = s.recipes := rfl
@[simp] theorem State.setChange_locator (h : Head) (c : Option Change) : (s.setChange h c).locator = s.locator := rfl
@[simp] theorem State.setChange_tracker (h : Head) (c : Option Change) : (s.setChange h c).tracker = s.tracker := rfl
@[simp] theorem State.setChange_disp (h : Head) (c : Option Change) : (s.setChange h c).disp = s.disp := rfl
@[simp] theorem State.setChange_spindle (h : Head) (c : Option Change) : (s.setChange h c).spindle = { s.spindle with change := s.spindle.change.set h c } := rfl
@[simp] theorem State.setChange_hand (h : Head) (c : Option Change) : (s.setChange h c).hand = s.hand := rfl
@[simp] theorem State.setChange_lines (h : Head) (c : Option Change) : (s.setChange h c).lines = s.lines := rfl
@[simp] theorem State.setChange_ev (h : Head) (c : Option Change) : (s.setChange h c).ev = s.ev := rfl
@[simp] theorem State.setChange_free (h : Head) (c : Option Change) : (s.setChange h c).free = s.free := rfl

/-! ### releaseBin -/

@[simp] theorem releaseBin_pending : (releaseBin s).pending = s.pending := rfl
@[simp] theorem releaseBin_ring : (releaseBin s).ring = s.ring := rfl
@[simp] theorem releaseBin_req : (releaseBin s).req = s.req := rfl
@[simp] theorem releaseBin_notices : (releaseBin s).notices = s.notices := rfl
@[simp] theorem releaseBin_recipes : (releaseBin s).recipes = s.recipes := rfl
@[simp] theorem releaseBin_locator : (releaseBin s).locator = s.locator := rfl
@[simp] theorem releaseBin_tracker : (releaseBin s).tracker = s.tracker := rfl
@[simp] theorem releaseBin_disp : (releaseBin s).disp = s.disp := rfl
@[simp] theorem releaseBin_spindle : (releaseBin s).spindle = s.spindle := rfl
@[simp] theorem releaseBin_hand : (releaseBin s).hand = { s.hand with binReserved := s.hand.binReserved - 1 } := rfl
@[simp] theorem releaseBin_lines : (releaseBin s).lines = s.lines := rfl
@[simp] theorem releaseBin_ev : (releaseBin s).ev = s.ev := rfl
@[simp] theorem releaseBin_free : (releaseBin s).free = s.free := rfl

/-! ### State.modLane -/

@[simp] theorem State.modLane_pending (k : Nat) (f : Lane → Lane) : (s.modLane k f).pending = s.pending := rfl
@[simp] theorem State.modLane_ring (k : Nat) (f : Lane → Lane) : (s.modLane k f).ring = s.ring := rfl
@[simp] theorem State.modLane_req (k : Nat) (f : Lane → Lane) : (s.modLane k f).req = s.req := rfl
@[simp] theorem State.modLane_notices (k : Nat) (f : Lane → Lane) : (s.modLane k f).notices = s.notices := rfl
@[simp] theorem State.modLane_recipes (k : Nat) (f : Lane → Lane) : (s.modLane k f).recipes = s.recipes := rfl
@[simp] theorem State.modLane_locator (k : Nat) (f : Lane → Lane) : (s.modLane k f).locator = s.locator := rfl
@[simp] theorem State.modLane_tracker (k : Nat) (f : Lane → Lane) : (s.modLane k f).tracker = s.tracker := rfl
@[simp] theorem State.modLane_disp (k : Nat) (f : Lane → Lane) : (s.modLane k f).disp = s.disp := rfl
@[simp] theorem State.modLane_spindle (k : Nat) (f : Lane → Lane) : (s.modLane k f).spindle = s.spindle := rfl
@[simp] theorem State.modLane_hand (k : Nat) (f : Lane → Lane) : (s.modLane k f).hand = { s.hand with lanes := s.hand.lanes.modify k f } := rfl
@[simp] theorem State.modLane_lines (k : Nat) (f : Lane → Lane) : (s.modLane k f).lines = s.lines := rfl
@[simp] theorem State.modLane_ev (k : Nat) (f : Lane → Lane) : (s.modLane k f).ev = s.ev := rfl
@[simp] theorem State.modLane_free (k : Nat) (f : Lane → Lane) : (s.modLane k f).free = s.free := rfl

/-! ### State.modPicker -/

@[simp] theorem State.modPicker_pending (f : PickerRec → PickerRec) : (s.modPicker f).pending = s.pending := rfl
@[simp] theorem State.modPicker_ring (f : PickerRec → PickerRec) : (s.modPicker f).ring = s.ring := rfl
@[simp] theorem State.modPicker_req (f : PickerRec → PickerRec) : (s.modPicker f).req = s.req := rfl
@[simp] theorem State.modPicker_notices (f : PickerRec → PickerRec) : (s.modPicker f).notices = s.notices := rfl
@[simp] theorem State.modPicker_recipes (f : PickerRec → PickerRec) : (s.modPicker f).recipes = s.recipes := rfl
@[simp] theorem State.modPicker_locator (f : PickerRec → PickerRec) : (s.modPicker f).locator = s.locator := rfl
@[simp] theorem State.modPicker_tracker (f : PickerRec → PickerRec) : (s.modPicker f).tracker = s.tracker := rfl
@[simp] theorem State.modPicker_disp (f : PickerRec → PickerRec) : (s.modPicker f).disp = s.disp := rfl
@[simp] theorem State.modPicker_spindle (f : PickerRec → PickerRec) : (s.modPicker f).spindle = s.spindle := rfl
@[simp] theorem State.modPicker_hand (f : PickerRec → PickerRec) : (s.modPicker f).hand = { s.hand with picker := f s.hand.picker } := rfl
@[simp] theorem State.modPicker_lines (f : PickerRec → PickerRec) : (s.modPicker f).lines = s.lines := rfl
@[simp] theorem State.modPicker_ev (f : PickerRec → PickerRec) : (s.modPicker f).ev = s.ev := rfl
@[simp] theorem State.modPicker_free (f : PickerRec → PickerRec) : (s.modPicker f).free = s.free := rfl

/-! ### State.modElevator -/

@[simp] theorem State.modElevator_pending (f : ElevatorRec → ElevatorRec) : (s.modElevator f).pending = s.pending := rfl
@[simp] theorem State.modElevator_ring (f : ElevatorRec → ElevatorRec) : (s.modElevator f).ring = s.ring := rfl
@[simp] theorem State.modElevator_req (f : ElevatorRec → ElevatorRec) : (s.modElevator f).req = s.req := rfl
@[simp] theorem State.modElevator_notices (f : ElevatorRec → ElevatorRec) : (s.modElevator f).notices = s.notices := rfl
@[simp] theorem State.modElevator_recipes (f : ElevatorRec → ElevatorRec) : (s.modElevator f).recipes = s.recipes := rfl
@[simp] theorem State.modElevator_locator (f : ElevatorRec → ElevatorRec) : (s.modElevator f).locator = s.locator := rfl
@[simp] theorem State.modElevator_tracker (f : ElevatorRec → ElevatorRec) : (s.modElevator f).tracker = s.tracker := rfl
@[simp] theorem State.modElevator_disp (f : ElevatorRec → ElevatorRec) : (s.modElevator f).disp = s.disp := rfl
@[simp] theorem State.modElevator_spindle (f : ElevatorRec → ElevatorRec) : (s.modElevator f).spindle = s.spindle := rfl
@[simp] theorem State.modElevator_hand (f : ElevatorRec → ElevatorRec) : (s.modElevator f).hand = { s.hand with elevator := f s.hand.elevator } := rfl
@[simp] theorem State.modElevator_lines (f : ElevatorRec → ElevatorRec) : (s.modElevator f).lines = s.lines := rfl
@[simp] theorem State.modElevator_ev (f : ElevatorRec → ElevatorRec) : (s.modElevator f).ev = s.ev := rfl
@[simp] theorem State.modElevator_free (f : ElevatorRec → ElevatorRec) : (s.modElevator f).free = s.free := rfl

/-! ### State.modService -/

@[simp] theorem State.modService_pending (f : Service → Service) : (s.modService f).pending = s.pending := rfl
@[simp] theorem State.modService_ring (f : Service → Service) : (s.modService f).ring = s.ring := rfl
@[simp] theorem State.modService_req (f : Service → Service) : (s.modService f).req = s.req := rfl
@[simp] theorem State.modService_notices (f : Service → Service) : (s.modService f).notices = s.notices := rfl
@[simp] theorem State.modService_recipes (f : Service → Service) : (s.modService f).recipes = s.recipes := rfl
@[simp] theorem State.modService_locator (f : Service → Service) : (s.modService f).locator = s.locator := rfl
@[simp] theorem State.modService_tracker (f : Service → Service) : (s.modService f).tracker = s.tracker := rfl
@[simp] theorem State.modService_disp (f : Service → Service) : (s.modService f).disp = s.disp := rfl
@[simp] theorem State.modService_spindle (f : Service → Service) : (s.modService f).spindle = s.spindle := rfl
@[simp] theorem State.modService_hand (f : Service → Service) : (s.modService f).hand = { s.hand with service := s.hand.service.map f } := rfl
@[simp] theorem State.modService_lines (f : Service → Service) : (s.modService f).lines = s.lines := rfl
@[simp] theorem State.modService_ev (f : Service → Service) : (s.modService f).ev = s.ev := rfl
@[simp] theorem State.modService_free (f : Service → Service) : (s.modService f).free = s.free := rfl

/-! ### endPickerOrder -/

@[simp] theorem endPickerOrder_pending : (endPickerOrder s).pending = s.pending := rfl
@[simp] theorem endPickerOrder_ring : (endPickerOrder s).ring = s.ring := rfl
@[simp] theorem endPickerOrder_req : (endPickerOrder s).req = s.req := rfl
@[simp] theorem endPickerOrder_notices : (endPickerOrder s).notices = s.notices := rfl
@[simp] theorem endPickerOrder_recipes : (endPickerOrder s).recipes = s.recipes := rfl
@[simp] theorem endPickerOrder_locator : (endPickerOrder s).locator = s.locator := rfl
@[simp] theorem endPickerOrder_tracker : (endPickerOrder s).tracker = s.tracker := rfl
@[simp] theorem endPickerOrder_disp : (endPickerOrder s).disp = s.disp := rfl
@[simp] theorem endPickerOrder_spindle : (endPickerOrder s).spindle = s.spindle := rfl
@[simp] theorem endPickerOrder_hand : (endPickerOrder s).hand = { s.hand with picker := { s.hand.picker with order := none, timer := none } } := rfl
@[simp] theorem endPickerOrder_lines : (endPickerOrder s).lines = s.lines := rfl
@[simp] theorem endPickerOrder_ev : (endPickerOrder s).ev = s.ev := rfl
@[simp] theorem endPickerOrder_free : (endPickerOrder s).free = s.free := rfl

/-! ### State.setStopIn -/

@[simp] theorem State.setStopIn_pending (r : Line) : (s.setStopIn r).pending = s.pending := rfl
@[simp] theorem State.setStopIn_ring (r : Line) : (s.setStopIn r).ring = s.ring := rfl
@[simp] theorem State.setStopIn_req (r : Line) : (s.setStopIn r).req = s.req := rfl
@[simp] theorem State.setStopIn_notices (r : Line) : (s.setStopIn r).notices = s.notices := rfl
@[simp] theorem State.setStopIn_recipes (r : Line) : (s.setStopIn r).recipes = s.recipes := rfl
@[simp] theorem State.setStopIn_locator (r : Line) : (s.setStopIn r).locator = s.locator := rfl
@[simp] theorem State.setStopIn_tracker (r : Line) : (s.setStopIn r).tracker = s.tracker := rfl
@[simp] theorem State.setStopIn_disp (r : Line) : (s.setStopIn r).disp = s.disp := rfl
@[simp] theorem State.setStopIn_spindle (r : Line) : (s.setStopIn r).spindle = s.spindle := rfl
@[simp] theorem State.setStopIn_hand (r : Line) : (s.setStopIn r).hand = s.hand := rfl
@[simp] theorem State.setStopIn_lines (r : Line) : (s.setStopIn r).lines = { s.lines with stopIn := r } := rfl
@[simp] theorem State.setStopIn_ev (r : Line) : (s.setStopIn r).ev = s.ev := rfl
@[simp] theorem State.setStopIn_free (r : Line) : (s.setStopIn r).free = s.free := rfl

/-! ### State.modLaneLine -/

@[simp] theorem State.modLaneLine_pending (k : Nat) (f : LaneLine → LaneLine) : (s.modLaneLine k f).pending = s.pending := rfl
@[simp] theorem State.modLaneLine_ring (k : Nat) (f : LaneLine → LaneLine) : (s.modLaneLine k f).ring = s.ring := rfl
@[simp] theorem State.modLaneLine_req (k : Nat) (f : LaneLine → LaneLine) : (s.modLaneLine k f).req = s.req := rfl
@[simp] theorem State.modLaneLine_notices (k : Nat) (f : LaneLine → LaneLine) : (s.modLaneLine k f).notices = s.notices := rfl
@[simp] theorem State.modLaneLine_recipes (k : Nat) (f : LaneLine → LaneLine) : (s.modLaneLine k f).recipes = s.recipes := rfl
@[simp] theorem State.modLaneLine_locator (k : Nat) (f : LaneLine → LaneLine) : (s.modLaneLine k f).locator = s.locator := rfl
@[simp] theorem State.modLaneLine_tracker (k : Nat) (f : LaneLine → LaneLine) : (s.modLaneLine k f).tracker = s.tracker := rfl
@[simp] theorem State.modLaneLine_disp (k : Nat) (f : LaneLine → LaneLine) : (s.modLaneLine k f).disp = s.disp := rfl
@[simp] theorem State.modLaneLine_spindle (k : Nat) (f : LaneLine → LaneLine) : (s.modLaneLine k f).spindle = s.spindle := rfl
@[simp] theorem State.modLaneLine_hand (k : Nat) (f : LaneLine → LaneLine) : (s.modLaneLine k f).hand = s.hand := rfl
@[simp] theorem State.modLaneLine_lines (k : Nat) (f : LaneLine → LaneLine) : (s.modLaneLine k f).lines = { s.lines with lanes := s.lines.lanes.modify k f } := rfl
@[simp] theorem State.modLaneLine_ev (k : Nat) (f : LaneLine → LaneLine) : (s.modLaneLine k f).ev = s.ev := rfl
@[simp] theorem State.modLaneLine_free (k : Nat) (f : LaneLine → LaneLine) : (s.modLaneLine k f).free = s.free := rfl

/-! ### askSelect -/

@[simp] theorem askSelect_pending : (askSelect s).pending = s.pending := rfl
@[simp] theorem askSelect_ring : (askSelect s).ring = s.ring := rfl
@[simp] theorem askSelect_req : (askSelect s).req = s.req := rfl
@[simp] theorem askSelect_notices : (askSelect s).notices = s.notices := rfl
@[simp] theorem askSelect_recipes : (askSelect s).recipes = s.recipes := rfl
@[simp] theorem askSelect_locator : (askSelect s).locator = s.locator := rfl
@[simp] theorem askSelect_tracker : (askSelect s).tracker = s.tracker := rfl
@[simp] theorem askSelect_disp : (askSelect s).disp = s.disp := rfl
@[simp] theorem askSelect_spindle : (askSelect s).spindle = s.spindle := rfl
@[simp] theorem askSelect_hand : (askSelect s).hand = s.hand := rfl
@[simp] theorem askSelect_lines : (askSelect s).lines = s.lines := rfl
@[simp] theorem askSelect_ev : (askSelect s).ev = { s.ev with select := true } := rfl
@[simp] theorem askSelect_free : (askSelect s).free = s.free := rfl

/-! ### clearMarks -/

@[simp] theorem clearMarks_pending : (clearMarks s).pending = s.pending := rfl
@[simp] theorem clearMarks_ring : (clearMarks s).ring = s.ring := rfl
@[simp] theorem clearMarks_req : (clearMarks s).req = s.req := rfl
@[simp] theorem clearMarks_notices : (clearMarks s).notices = s.notices := rfl
@[simp] theorem clearMarks_recipes : (clearMarks s).recipes = s.recipes := rfl
@[simp] theorem clearMarks_locator : (clearMarks s).locator = s.locator := rfl
@[simp] theorem clearMarks_tracker : (clearMarks s).tracker = s.tracker := rfl
@[simp] theorem clearMarks_disp : (clearMarks s).disp = s.disp := rfl
@[simp] theorem clearMarks_spindle : (clearMarks s).spindle = s.spindle := rfl
@[simp] theorem clearMarks_hand : (clearMarks s).hand = s.hand := rfl
@[simp] theorem clearMarks_lines : (clearMarks s).lines = s.lines := rfl
@[simp] theorem clearMarks_ev : (clearMarks s).ev = EventMarks.clear := rfl
@[simp] theorem clearMarks_free : (clearMarks s).free = s.free := rfl

/-! ### Values kept for each head and each node -/

@[simp] theorem PerHead.get_set_self {α : Type} (p : PerHead α) (h : Head) (v : α) : (p.set h v).get h = v := by
  cases h <;> rfl

theorem PerHead.get_set_ne {α : Type} (p : PerHead α) (h k : Head) (v : α) (hk : k ≠ h) : (p.set h v).get k = p.get k := by
  cases h <;> cases k <;> first | rfl | exact absurd rfl hk

@[simp] theorem PerNode.get_set_self {α : Type} (p : PerNode α) (n : Node) (v : α) : (p.set n v).get n = v := by
  cases n <;> rfl

theorem PerNode.get_set_ne {α : Type} (p : PerNode α) (n m : Node) (v : α) (hm : m ≠ n) : (p.set n v).get m = p.get m := by
  cases n <;> cases m <;> first | rfl | exact absurd rfl hm

@[simp] theorem State.setNode_node (n : Node) (r : NodeRec) : (s.setNode n r).node n = r := by cases n <;> rfl

theorem State.setNode_node_ne (n m : Node) (r : NodeRec) (hm : m ≠ n) : (s.setNode n r).node m = s.node m :=
  PerNode.get_set_ne _ _ _ _ hm

@[simp] theorem State.setHead_head (h : Head) (r : HeadRec) : (s.setHead h r).head h = r := by cases h <;> rfl

theorem State.setHead_head_ne (h k : Head) (r : HeadRec) (hk : k ≠ h) : (s.setHead h r).head k = s.head k :=
  PerHead.get_set_ne _ _ _ _ hk

@[simp] theorem writeOrder_node (n : Node) (o : Order) :
    (writeOrder n o s).node n = (s.node n).write o (s.param .takeTimeout) := by cases n <;> rfl

theorem writeOrder_node_ne (n m : Node) (o : Order) (hm : m ≠ n) : (writeOrder n o s).node m = s.node m :=
  PerNode.get_set_ne _ _ _ _ hm

/-- But for an event in which both heads leave service, a head takes tabs when it is in service (R76, R80). -/
theorem State.takesTabs_of_one (h : Head) (one : s.ev.bothLeave = false) : s.takesTabs h = s.inService h := by
  simp [State.takesTabs, one]

end Sys2Proof.Machine
end

