-- ==== Sys2Proof/Laws/Requests.lean ====
section
/-! SUPPORT. What the request unit does with a request command, and what the operations that the request meanings share do: each
said once, for proofs to cite. -/

namespace Sys2Proof.Machine

/-! ### Lists -/

/-- Changing an entry that is there is setting it. -/
theorem modify_eq_set {α : Type} (l : List α) (i : Nat) (f : α → α) (a : α) (h : l[i]? = some a) :
    l.modify i f = l.set i (f a) := by
  obtain ⟨hi, rfl⟩ := List.getElem?_eq_some_iff.1 h
  apply List.ext_getElem?
  intro j
  rw [List.getElem?_modify, List.getElem?_set]
  by_cases hj : i = j
  · subst hj; simp [hi]
  · simp [hj]

/-- A load writes its items at consecutive offsets and nowhere else (R9). -/
theorem writeItems_spec (l : List Item) (o : Nat) (t : List (Option Item)) :
    (writeItems l o t).length = t.length ∧
      (∀ j, o + l.length ≤ t.length → j < l.length → (writeItems l o t)[o + j]? = some l[j]?) ∧
      (∀ j, j < o ∨ o + l.length ≤ j → (writeItems l o t)[j]? = t[j]?) := by
  induction l generalizing o t with
  | nil => simp [writeItems]
  | cons a l ih =>
    obtain ⟨h1, h2, h3⟩ := ih (o + 1) (t.set o (some a))
    refine ⟨by simp [writeItems, h1], fun j hl hj => ?_, fun j hj => ?_⟩
    · rw [List.length_cons] at hl hj
      rw [writeItems]
      cases j with
      | zero => rw [h3 _ (by omega), Nat.add_zero, List.getElem?_set_self (by omega)]; rfl
      | succ j =>
        rw [show o + (j + 1) = o + 1 + j by omega, h2 j (by rw [List.length_set]; omega) (by omega)]; rfl
    · rw [List.length_cons] at hj
      rw [writeItems, h3 j (by omega), List.getElem?_set_ne (by omega)]

/-! ### The request unit -/

variable {s : State}

/-- A part that is ready serves its ring, holds no request and has room for a reply. -/
theorem State.ready_iff : s.ready = true ↔ s.serving = true ∧ s.req.requests = [] ∧ s.replyRoom = true := by
  simp [State.ready, and_assoc]

/-- A request command hands its request to the request unit. -/
theorem exec_request {c : Instr} {r : Request} (h : requestOf c = some r) (s : State) : exec c s = .next (submit r s) := by
  cases c <;> simp [requestOf] at h <;> subst h <;> rfl

/-- A part that serves its ring takes the arrival of a request, and then handles the front of its queue (R177, R178). -/
theorem submit_serving (h : s.serving = true) (r : Request) : submit r s = handleFront (arrive r s) := if_pos h

/-- A request joins the back of a queue with a place (R177). -/
theorem arrive_joins {r : Request} (h : s.req.requests.length < 4) : arrive r s = s.setRequests (s.req.requests ++ [r]) :=
  if_pos h

/-- A full request queue: QUEUE_FULL where the reply queue has room (R177). -/
theorem arrive_queueFull {r : Request} (h : 4 ≤ s.req.requests.length) (hr : s.replyRoom = true) :
    arrive r s = s.answer r.src r.tag r.body.kind .queueFull [] := (if_neg (Nat.not_lt.2 h)).trans (if_pos hr)

/-- Both queues full: the request is dropped and counted (R177). -/
theorem arrive_dropped {r : Request} (h : 4 ≤ s.req.requests.length) (hr : s.replyRoom = false) :
    arrive r s = { s with req := { s.req with dropped := min 255 (s.req.dropped + 1) } } :=
  (if_neg (Nat.not_lt.2 h)).trans (if_neg (by simp [hr]))

/-- With room for a reply the front request is handled (R178). -/
theorem handleFront_room {q : Request} {rest : List Request} (hr : s.replyRoom = true) (h : s.req.requests = q :: rest) :
    handleFront s = handle q (s.setRequests rest) := by simp [handleFront, h, hr]

/-- With no request, or no room for a reply, nothing is handled (R178). -/
theorem handleFront_waits (h : s.req.requests = [] ∨ s.replyRoom = false) : handleFront s = s := by
  unfold handleFront; split
  · rfl
  · next q rest e => rcases h with h | h <;> simp_all

/-- The queue's requests do not count for the room of the reply queue. -/
@[simp] theorem State.setRequests_replyRoom (l : List Request) : (s.setRequests l).replyRoom = s.replyRoom := rfl

@[simp] theorem State.setRequests_requests (l : List Request) : (s.setRequests l).req.requests = l := rfl

theorem State.setRequests_twice (l m : List Request) : (s.setRequests l).setRequests m = s.setRequests m := rfl

theorem State.setRequests_same : s.setRequests s.req.requests = s := rfl

/-- A ready part handles a request in its command. -/
theorem submit_ready (h : s.ready = true) (r : Request) : submit r s = handle r s := by
  obtain ⟨a, b, c⟩ := State.ready_iff.1 h
  have e : (s.setRequests (s.req.requests ++ [r])).req.requests = [r] := by simp [b]
  rw [submit_serving a, arrive_joins (by simp [b]), handleFront_room (by simpa using c) e, State.setRequests_twice, ← b,
    State.setRequests_same]

/-- What a ready part does with a request command. -/
theorem exec_ready {c : Instr} {r : Request} (hc : requestOf c = some r) (h : s.ready = true) :
    exec c s = .next (handle r s) := by rw [exec_request hc, submit_ready h]

/-- A request whose check fails gets that reply, and nothing else changes. -/
theorem handle_refused {r : Request} {code : Code} (h : act r s = answered code s) :
    handle r s = s.answer r.src r.tag r.body.kind code [] := by rw [handle, h]; rfl

/-- An accepted request without data is answered OK on the state it leaves. -/
theorem handle_accepted {r : Request} {t : State} (h : act r s = accepted t) :
    handle r s = t.answer r.src r.tag r.body.kind .ok [] := by rw [handle, h]; rfl

/-- A request that replies with data. -/
theorem handle_replied {r : Request} {t : State} {code : Code} {data : List Byte} (h : act r s = (t, some (code, data))) :
    handle r s = t.answer r.src r.tag r.body.kind code data := by rw [handle, h]; rfl

/-- A request that is answered later leaves no reply (R11). -/
theorem handle_silent {r : Request} {t : State} (h : act r s = (t, none)) : handle r s = t := by rw [handle, h]; rfl

/-- A part that does not serve its ring takes no request (R154, R165). -/
theorem submit_deaf (h : s.serving = false) (r : Request) : submit r s = s := by simp [submit, h]

/-! ### The hold causes -/

/-- STOP with cause HOLD for every head that is CUTTING (R155). -/
theorem stopHeads_hold (s : State) : stopHeads .hold s = { s with
    disp := { s.disp with heads := ⟨s.disp.heads.a.onHold, s.disp.heads.b.onHold⟩ }
    ring := { s.ring with nodes := { s.ring.nodes with headA := s.slotOnHold .a, headB := s.slotOnHold .b } } } := by
  unfold stopHeads State.follow
  generalize s.lead = l
  by_cases ha : s.disp.heads.a.state = .cutting <;> by_cases hb : s.disp.heads.b.state = .cutting <;> cases l <;>
    simp [stopHead, State.head, PerHead.get, PerHead.set, Head.other, Head.node, HeadRec.onHold, State.slotOnHold, ha, hb,
      State.modHead, State.setHead, writeOrder, State.setNode, State.node, PerNode.get, PerNode.set, State.param]

/-- A hold cause added: in RUN the cuts are stopped first (R155). -/
theorem addCause_eq (f : Causes → Causes) (s : State) : addCause f s = s.withCauses (f s.lines.causes) := by
  unfold addCause State.withCauses
  split
  · rw [stopHeads_hold]; rfl
  · rfl

/-! ### The ring's ports -/

/-- An UP port that leaves UP (R163, R164). -/
theorem leaveUp_eq (q : Port) (s : State) :
    leaveUp q s = raise (.portState q .training (some .r100)) (raise (.portState q .down none)
      (s.setPort q { state := .training, rate := some .r100, timer := some 2, sync := 0, errRun := 0 })) := by
  cases q <;> rfl

/-! ### The bin, the lanes and the wear -/

/-- A reservation raises the reserved count by one (R144). -/
theorem reserveBin_hand (s : State) : (reserveBin s).hand = { s.hand with binReserved := s.hand.binReserved + 1 } := by
  unfold reserveBin; simp only; split <;> rfl

/-- Filling a reserved place keeps the sum of the bin's counts (R134, R138, R144). -/
theorem fillBin_sum (s : State) :
    (fillBin s).hand.binFilled + (fillBin s).hand.binReserved = s.hand.binFilled + s.hand.binReserved := by
  unfold fillBin; split
  · rfl
  · dsimp only; omega

/-- The FULL test changes a lane's state alone (R140). -/
theorem Lane.testFull_slots (l : Lane) : l.testFull.slots = l.slots := by unfold Lane.testFull; split <;> rfl

/-- A charge of the mounted bit (R104): its wear and cuts, both saturating, and the change due at BIT_LIFE (R106). -/
theorem chargeBit_eq (h : Head) (mm i : Nat) (p : RackPos) (s : State) (hm : s.mounted h = some i)
    (hp : s.rackAt i = some p) :
    chargeBit h mm s =
      let wear := min 1048575 (p.wear + mm)
      { s with spindle := { s.spindle with
        rack := s.spindle.rack.set i { p with wear := wear, cuts := min 65535 (p.cuts + 1) }
        due := if s.param .bitLife ≤ wear then s.spindle.due.set h true else s.spindle.due } } := by
  unfold chargeBit
  have e : (s.modRack i (RackPos.charge mm)).rackAt i = some (p.charge mm) := by
    simp only [State.rackAt, State.modRack] at hp ⊢
    simp [hp]
  have e2 : s.modRack i (RackPos.charge mm) =
      { s with spindle := { s.spindle with rack := s.spindle.rack.set i (p.charge mm) } } := by
    simp only [State.modRack]; rw [modify_eq_set _ _ _ _ hp]
  rw [hm]
  simp only [e]
  rw [e2]
  show (if s.param .bitLife ≤ min 1048575 (p.wear + mm) then _ else _) = _
  by_cases hl : s.param .bitLife ≤ min 1048575 (p.wear + mm)
  · refine (if_pos hl).trans ?_
    simp only [if_pos hl]; rfl
  · refine (if_neg hl).trans ?_
    simp only [if_neg hl]; rfl

end Sys2Proof.Machine
end

