-- ==== Sys2Proof/Laws/Setup.lean ====
section
/-! SUPPORT. What the work of the cell leaves alone: every operation of the blocks keeps `State.setup`. One lemma for each
operation, so that no proof about the request unit, the recipes, the lines or the ports unfolds the work of the cell. -/

set_option linter.all false

namespace Sys2Proof.Machine

/-- A fold of operations that each keep the set-up keeps it. -/
theorem foldl_setup {α : Type} (f : State → α → State) (hf : ∀ s a, (f s a).setup = s.setup) (l : List α) (s : State) :
    (l.foldl f s).setup = s.setup := by
  induction l generalizing s with
  | nil => rfl
  | cons a l ih => rw [List.foldl_cons, ih, hf]

theorem map_level_modify (l : List NoticeRec) (i : Nat) (f : NoticeRec → NoticeRec) (hf : ∀ r, (f r).level = r.level) :
    (l.modify i f).map NoticeRec.level = l.map NoticeRec.level := by
  induction l generalizing i with
  | nil => simp
  | cons a l ih => cases i <;> simp [hf, ih]

@[simp] theorem NoticeRec.raise_level (d : Detail) (r : NoticeRec) : (r.raise d).level = r.level := by
  unfold NoticeRec.raise; split <;> rfl

variable (s : State)

@[simp] theorem with_hand_setup (x : Handover) : ({ s with hand := x } : State).setup = s.setup := rfl
@[simp] theorem with_spindle_setup (x : Spindle) : ({ s with spindle := x } : State).setup = s.setup := rfl
@[simp] theorem with_disp_setup (x : Dispatcher) : ({ s with disp := x } : State).setup = s.setup := rfl
@[simp] theorem with_locator_setup (x : Locator) : ({ s with locator := x } : State).setup = s.setup := rfl
@[simp] theorem with_ev_setup (x : EventMarks) : ({ s with ev := x } : State).setup = s.setup := rfl

@[simp] theorem State.setNode_setup (n : Node) (r : NodeRec) : (s.setNode n r).setup = s.setup := by
  rfl

@[simp] theorem writeOrder_setup (n : Node) (o : Order) : (writeOrder n o s).setup = s.setup := by
  rfl

@[simp] theorem setLatch_setup (n : Node) (w : FaultReason) : (setLatch n w s).setup = s.setup := by
  rfl

@[simp] theorem raise_setup (d : Detail) : (raise d s).setup = s.setup := by
  simp [raise, State.setup, map_level_modify]

@[simp] theorem State.modLoc_setup (f : LocRec → LocRec) : (s.modLoc f).setup = s.setup := by
  rfl

@[simp] theorem leavePickQueue_setup (b : Nat) : (leavePickQueue b s).setup = s.setup := by
  rfl

@[simp] theorem askSelect_setup : (askSelect s).setup = s.setup := by
  rfl

@[simp] theorem joinPickBack_setup (b : Nat) : (joinPickBack b s).setup = s.setup := by
  rfl

@[simp] theorem joinPickFront_setup (b : Nat) : (joinPickFront b s).setup = s.setup := by
  rfl

@[simp] theorem State.modPanel_setup (q : PanelRef) (f : Panel → Panel) : (s.modPanel q f).setup = s.setup := by
  cases q <;> rfl

@[simp] theorem State.setHalf_setup (h : Half) (l : List Board) : (s.setHalf h l).setup = s.setup := by
  cases h <;> rfl

@[simp] theorem State.modBoard_setup (q : PanelRef) (b : Nat) (f : Board → Board) : (s.modBoard q b f).setup = s.setup := by
  unfold State.modBoard
  (repeat' split) <;> simp

@[simp] theorem setBoardState_setup (q : PanelRef) (b : Nat) (st : BoardState) : (setBoardState q b st s).setup = s.setup := by
  unfold setBoardState
  simp [foldl_setup]

@[simp] theorem State.modTab_setup (i : Nat) (f : Tab → Tab) : (s.modTab i f).setup = s.setup := by
  rfl

@[simp] theorem State.setHead_setup (h : Head) (r : HeadRec) : (s.setHead h r).setup = s.setup := by
  rfl

@[simp] theorem State.modHead_setup (h : Head) (f : HeadRec → HeadRec) : (s.modHead h f).setup = s.setup := by
  rfl

@[simp] theorem setHeadState_setup (h : Head) (st : HeadState) : (setHeadState h st s).setup = s.setup := by
  rfl

@[simp] theorem State.setFilter_setup (h : Head) (f : Filter) : (s.setFilter h f).setup = s.setup := by
  rfl

@[simp] theorem State.modRack_setup (i : Nat) (f : RackPos → RackPos) : (s.modRack i f).setup = s.setup := by
  rfl

@[simp] theorem State.setDue_setup (h : Head) (v : Bool) : (s.setDue h v).setup = s.setup := by
  rfl

@[simp] theorem State.setChange_setup (h : Head) (c : Option Change) : (s.setChange h c).setup = s.setup := by
  rfl

@[simp] theorem reserveBin_setup : (reserveBin s).setup = s.setup := by
  unfold reserveBin
  dsimp only
  (repeat' split) <;> simp [foldl_setup]

@[simp] theorem releaseBin_setup : (releaseBin s).setup = s.setup := by
  rfl

@[simp] theorem fillBin_setup : (fillBin s).setup = s.setup := by
  unfold fillBin
  (repeat' split) <;> first | rfl | simp

@[simp] theorem State.modLane_setup (k : Nat) (f : Lane → Lane) : (s.modLane k f).setup = s.setup := by
  rfl

@[simp] theorem releaseSlot_setup (d : Dest) : (releaseSlot d s).setup = s.setup := by
  unfold releaseSlot
  (repeat' split) <;> simp

@[simp] theorem suspectSlot_setup (d : Dest) : (suspectSlot d s).setup = s.setup := by
  unfold suspectSlot
  (repeat' split) <;> simp

@[simp] theorem fillSlot_setup (d : Dest) : (fillSlot d s).setup = s.setup := by
  unfold fillSlot
  (repeat' split) <;> simp

@[simp] theorem State.modPicker_setup (f : PickerRec → PickerRec) : (s.modPicker f).setup = s.setup := by
  rfl

@[simp] theorem State.modElevator_setup (f : ElevatorRec → ElevatorRec) : (s.modElevator f).setup = s.setup := by
  rfl

@[simp] theorem State.modService_setup (f : Service → Service) : (s.modService f).setup = s.setup := by
  rfl

@[simp] theorem endPickerOrder_setup : (endPickerOrder s).setup = s.setup := by
  rfl

@[simp] theorem writePicker_setup (k : PickerOrder) (o : Order) : (writePicker k o s).setup = s.setup := by
  unfold writePicker
  simp

@[simp] theorem writeIndex_setup (k i : Nat) : (writeIndex k i s).setup = s.setup := by
  unfold writeIndex
  simp [foldl_setup]

@[simp] theorem releaseContingency_setup : (releaseContingency s).setup = s.setup := by
  unfold releaseContingency
  (repeat' split) <;> simp

@[simp] theorem freeService_setup : (freeService s).setup = s.setup := by
  unfold freeService
  dsimp only
  (repeat' split) <;> first | (simp; done) | rfl

@[simp] theorem writeRetract_setup : (writeRetract s).setup = s.setup := by
  unfold writeRetract
  (repeat' split) <;> simp

@[simp] theorem writeReindex_setup : (writeReindex s).setup = s.setup := by
  unfold writeReindex
  (repeat' split) <;> simp

@[simp] theorem writeLift_setup : (writeLift s).setup = s.setup := by
  unfold writeLift
  (repeat' split) <;> simp

@[simp] theorem writePlace_setup : (writePlace s).setup = s.setup := by
  unfold writePlace
  (repeat' split) <;> simp

@[simp] theorem writeDue_setup : (writeDue s).setup = s.setup := by
  unfold writeDue
  simp [foldl_setup]

@[simp] theorem lowerBoard_setup (b : Nat) : (lowerBoard b s).setup = s.setup := by
  unfold lowerBoard
  simp

@[simp] theorem lowerCounts_setup (t : Tab) : (lowerCounts t s).setup = s.setup := by
  unfold lowerCounts
  (repeat' split) <;> simp

@[simp] theorem leaveLists_setup (i : Nat) : (leaveLists i s).setup = s.setup := by
  rfl

@[simp] theorem markSkipped_setup (i : Nat) (w : SkipReason) : (markSkipped i w s).setup = s.setup := by
  unfold markSkipped
  (repeat' split) <;> simp

@[simp] theorem skipTab_setup (i : Nat) : (skipTab i s).setup = s.setup := by
  unfold skipTab
  (repeat' split) <;> simp

@[simp] theorem skipFor_setup (b i : Nat) : (skipFor b s i).setup = s.setup := by
  unfold skipFor
  (repeat' split) <;> simp

@[simp] theorem skipTabsOf_setup (b : Nat) : (skipTabsOf b s).setup = s.setup := by
  unfold skipTabsOf
  simp [foldl_setup]

@[simp] theorem withdraw_setup : (withdraw s).setup = s.setup := by
  unfold withdraw
  dsimp only
  (repeat' split) <;> simp [foldl_setup]

@[simp] theorem giveUpBin_setup (r : Board) : (giveUpBin r s).setup = s.setup := by
  unfold giveUpBin
  (repeat' split) <;> simp

@[simp] theorem retainNow_setup (b : Nat) (w : RetainReason) : (retainNow b w s).setup = s.setup := by
  unfold retainNow
  dsimp only
  (repeat' split) <;> first | (simp; done) | rfl

@[simp] theorem retain_setup (b : Nat) (w : RetainReason) : (retain b w s).setup = s.setup := by
  unfold retain
  (repeat' split) <;> simp

@[simp] theorem retainJoined_setup (t : Tab) (w : RetainReason) : (retainJoined t w s).setup = s.setup := by
  unfold retainJoined
  (repeat' split) <;> simp

@[simp] theorem retainAll_setup (w : RetainReason) : (retainAll w s).setup = s.setup := by
  unfold retainAll
  simp [foldl_setup]

@[simp] theorem loseBoard_setup (q : PanelRef) (b : Nat) (w : LostReason) : (loseBoard q b w s).setup = s.setup := by
  unfold loseBoard
  (repeat' split) <;> simp

@[simp] theorem testReady_setup (b : Nat) : (testReady b s).setup = s.setup := by
  unfold testReady
  (repeat' split) <;> simp

@[simp] theorem panelDone_setup : (panelDone s).setup = s.setup := by
  unfold panelDone
  simp [foldl_setup]

@[simp] theorem testDone_setup : (testDone s).setup = s.setup := by
  unfold testDone
  (repeat' split) <;> simp

@[simp] theorem closePanel_setup (q : PanelRef) : (closePanel q s).setup = s.setup := by
  unfold closePanel
  split
  · rfl
  · rename_i p _
    cases q <;>
      exact (show _ = ((raise (.panelClosed p.id p.tally) s).setHalf p.half []).setup from rfl).trans (by simp)

@[simp] theorem testClose_setup : (testClose s).setup = s.setup := by
  unfold testClose
  (repeat' split) <;> simp

@[simp] theorem putTab_setup (i : Nat) (p : Place) (f : Bool) : (putTab i p f s).setup = s.setup := by
  unfold putTab
  (repeat' split) <;> simp

@[simp] theorem evalPairing_setup : (evalPairing s).setup = s.setup := by
  unfold evalPairing
  (repeat' split) <;> simp

@[simp] theorem reassign_setup (i : Nat) : (reassign s i).setup = s.setup := by
  unfold reassign
  (repeat' split) <;> simp

@[simp] theorem moveOut_setup (h : Head) : (moveOut h s).setup = s.setup := by
  unfold moveOut
  dsimp only
  (repeat' split) <;> simp [foldl_setup]

@[simp] theorem leaveService_setup (h : Head) : (leaveService h s).setup = s.setup := by
  unfold leaveService
  dsimp only
  (repeat' split) <;> simp [foldl_setup]

@[simp] theorem takeUnassigned_setup (h : Head) (i : Nat) : (takeUnassigned h s i).setup = s.setup := by
  unfold takeUnassigned
  (repeat' split) <;> simp

@[simp] theorem enterService_setup (h : Head) : (enterService h s).setup = s.setup := by
  unfold enterService
  simp [foldl_setup]

@[simp] theorem grant_setup (i : Nat) : (grant i s).setup = s.setup := by
  unfold grant
  (repeat' split) <;> simp

@[simp] theorem stopHead_setup (h : Head) (c : StopCause) : (stopHead h c s).setup = s.setup := by
  unfold stopHead
  (repeat' split) <;> simp

@[simp] theorem stopHeads_setup (c : StopCause) : (stopHeads c s).setup = s.setup := by
  unfold stopHeads
  simp

@[simp] theorem stopTab_setup (i : Nat) (c : StopCause) : (stopTab i c s).setup = s.setup := by
  unfold stopTab
  (repeat' split) <;> simp

@[simp] theorem revoke_setup (i : Nat) : (revoke i s).setup = s.setup := by
  unfold revoke
  (repeat' split) <;> simp

@[simp] theorem writeTool_setup (h : Head) : (writeTool h s).setup = s.setup := by
  unfold writeTool
  (repeat' split) <;> simp

@[simp] theorem engage_setup (h : Head) (c : Change) (i : Nat) : (engage h c i s).setup = s.setup := by
  unfold engage
  dsimp only
  (repeat' split) <;> first | (simp; done) | rfl

@[simp] theorem pickBit_setup (h : Head) : (pickBit h s).setup = s.setup := by
  unfold pickBit
  split
  · rfl
  · split
    · simp
    · refine (leaveService_setup _ _).trans ((raise_setup _ _).trans ((with_spindle_setup _ _).trans ?_))
      split <;> simp

@[simp] theorem beginChange_setup (h : Head) : (beginChange h s).setup = s.setup := by
  unfold beginChange
  simp

@[simp] theorem headIdle_setup (h : Head) : (headIdle h s).setup = s.setup := by
  unfold headIdle
  (repeat' split) <;> simp

@[simp] theorem headBack_setup (h : Head) : (headBack h s).setup = s.setup := by
  unfold headBack
  dsimp only
  (repeat' split) <;> first | (simp; done) | rfl

@[simp] theorem serveOne_setup (h : Head) : (serveOne s h).setup = s.setup := by
  unfold serveOne
  (repeat' split) <;> simp

@[simp] theorem serveList_setup : (serveList s).setup = s.setup := by
  unfold serveList
  simp [foldl_setup]

@[simp] theorem returnBit_setup (h : Head) (c : Change) : (returnBit h c s).setup = s.setup := by
  unfold returnBit
  dsimp only
  (repeat' split) <;> first | (simp; done) | rfl

@[simp] theorem toolOk_setup (h : Head) (c : Change) : (toolOk h c s).setup = s.setup := by
  unfold toolOk
  dsimp only
  (repeat' split) <;> first | (simp; done) | rfl

@[simp] theorem disengage_setup (c : Change) : (disengage c s).setup = s.setup := by
  unfold disengage
  (repeat' split) <;> simp

@[simp] theorem toolNoBit_setup (h : Head) (c : Change) : (toolNoBit h c s).setup = s.setup := by
  unfold toolNoBit
  (repeat' split) <;> simp

@[simp] theorem failChange_setup (h : Head) : (failChange h s).setup = s.setup := by
  unfold failChange
  (repeat' split) <;> simp

@[simp] theorem failWaiting_setup (h : Head) : (failWaiting h s).setup = s.setup := by
  rfl

@[simp] theorem chargeBit_setup (h : Head) (m : Nat) : (chargeBit h m s).setup = s.setup := by
  unfold chargeBit
  dsimp only
  (repeat' split) <;> first | (simp; done) | rfl

@[simp] theorem accountDone_setup (h : Head) (l : Nat) : (accountDone h l s).setup = s.setup := by
  unfold accountDone
  simp [foldl_setup]

@[simp] theorem accountAbort_setup (h : Head) (r : Option Nat) : (accountAbort h r s).setup = s.setup := by
  unfold accountAbort
  simp [foldl_setup]

@[simp] theorem declareBroken_setup (h : Head) : (declareBroken h s).setup = s.setup := by
  unfold declareBroken
  simp

@[simp] theorem acceptSample_setup (h : Head) (x : Nat) : (acceptSample h x s).setup = s.setup := by
  unfold acceptSample
  dsimp only
  (repeat' split) <;> first | (simp; done) | rfl

@[simp] theorem offerSample_setup (h : Head) (r l : Nat) : (offerSample h r l s).setup = s.setup := by
  unfold offerSample
  dsimp only
  (repeat' split) <;> first | (simp; done) | rfl

@[simp] theorem releaseOrdered_setup (t : Tab) : (releaseOrdered t s).setup = s.setup := by
  unfold releaseOrdered
  (repeat' split) <;> simp

@[simp] theorem issueCut_setup (h : Head) (i : Nat) : (issueCut h i s).setup = s.setup := by
  unfold issueCut
  (repeat' split) <;> simp

@[simp] theorem issuePark_setup (h : Head) : (issuePark h s).setup = s.setup := by
  unfold issuePark
  simp

@[simp] theorem arbiter_setup (h : Head) : (arbiter h s).setup = s.setup := by
  unfold arbiter
  (repeat' split) <;> simp

@[simp] theorem runArbiter_setup : (runArbiter s).setup = s.setup := by
  unfold runArbiter
  simp [foldl_setup]

@[simp] theorem dropLifted_setup (q : PanelRef) (b : Nat) : (dropLifted q b s).setup = s.setup := by
  unfold dropLifted
  simp [foldl_setup]

@[simp] theorem tornBoard_setup (b : Nat) (v : Bool) : (tornBoard b v s).setup = s.setup := by
  unfold tornBoard
  (repeat' split) <;> simp

@[simp] theorem releaseDone_setup (b : Nat) : (releaseDone b s).setup = s.setup := by
  unfold releaseDone
  dsimp only
  (repeat' split) <;> first | (simp; done) | rfl

@[simp] theorem endHead_setup (h : Head) : (endHead h s).setup = s.setup := by
  unfold endHead
  simp [foldl_setup]

@[simp] theorem handPeak_setup (h : Head) (i : Nat) : (handPeak h i s).setup = s.setup := by
  unfold handPeak
  rfl

@[simp] theorem reportDone_setup (t : Tab) : (reportDone t s).setup = s.setup := by
  unfold reportDone
  (repeat' split) <;> simp

@[simp] theorem cutDone_setup (h : Head) : (cutDone h s).setup = s.setup := by
  unfold cutDone
  (repeat' split) <;> simp

@[simp] theorem failTab_setup (i : Nat) (w : CutHow) : (failTab i w s).setup = s.setup := by
  unfold failTab
  (repeat' split) <;> simp

@[simp] theorem requeue_setup (h : Head) (b : Bool) (i : Nat) : (requeue h b i s).setup = s.setup := by
  unfold requeue
  (repeat' split) <;> simp

@[simp] theorem settlePlain_setup (h : Head) (b : Bool) (w : CutHow) (i : Nat) : (settlePlain h b w i s).setup = s.setup := by
  unfold settlePlain
  (repeat' split) <;> simp

@[simp] theorem retainReleasing_setup (b : Nat) (w : RetainReason) : (retainReleasing b w s).setup = s.setup := by
  unfold retainReleasing
  (repeat' split) <;> simp

@[simp] theorem backToGripped_setup (b : Nat) : (backToGripped b s).setup = s.setup := by
  unfold backToGripped
  (repeat' split) <;> simp

@[simp] theorem settleRelease_setup (h : Head) (b : Bool) (w : CutHow) (i : Nat) : (settleRelease h b w i s).setup = s.setup := by
  unfold settleRelease
  (repeat' split) <;> simp

@[simp] theorem settleReleaseTab_setup (h : Head) (b : Bool) (w : CutHow) (i : Nat) : (settleReleaseTab h b w i s).setup = s.setup := by
  unfold settleReleaseTab
  dsimp only
  (repeat' split) <;> first | (simp; done) | rfl

@[simp] theorem settleTab_setup (h : Head) (b : Bool) (w : CutHow) (i : Nat) : (settleTab h b w i s).setup = s.setup := by
  unfold settleTab
  (repeat' split) <;> simp

@[simp] theorem cutStopped_setup (h : Head) (r : Nat) : (cutStopped h r s).setup = s.setup := by
  unfold cutStopped
  (repeat' split) <;> simp

@[simp] theorem faultCut_setup (h : Head) (w : FaultReason) : (faultCut h w s).setup = s.setup := by
  unfold faultCut
  (repeat' split) <;> simp

@[simp] theorem headFault_setup (h : Head) (w : FaultReason) : (headFault h w s).setup = s.setup := by
  unfold headFault
  dsimp only
  (repeat' split) <;> first | (simp; done) | rfl

@[simp] theorem selectBoard_setup (b : Nat) (r : Board) (d : Dest) : (selectBoard b r d s).setup = s.setup := by
  unfold selectBoard
  (repeat' split) <;> simp

@[simp] theorem scanQueue_setup (l : List Nat) : (scanQueue l s).setup = s.setup := by
  induction l generalizing s with
  | nil => rfl
  | cons b l ih => unfold scanQueue; repeat' split
                   all_goals simp [ih]

@[simp] theorem trySelect_setup : (trySelect s).setup = s.setup := by
  unfold trySelect
  (repeat' split) <;> simp

@[simp] theorem clearMarks_setup : (clearMarks s).setup = s.setup := by
  rfl

@[simp] theorem selectIfAsked_setup : (selectIfAsked s).setup = s.setup := by
  unfold selectIfAsked
  (repeat' split) <;> simp

@[simp] theorem settle_setup : (settle s).setup = s.setup := by
  unfold settle
  simp

@[simp] theorem pickGripped_setup : (pickGripped s).setup = s.setup := by
  unfold pickGripped
  dsimp only
  (repeat' split) <;> simp [foldl_setup]

@[simp] theorem missBoard_setup (b : Nat) : (missBoard b s).setup = s.setup := by
  unfold missBoard
  dsimp only
  (repeat' split) <;> first | (simp; done) | rfl

@[simp] theorem pickMissed_setup : (pickMissed s).setup = s.setup := by
  unfold pickMissed
  dsimp only
  (repeat' split) <;> simp [foldl_setup]

@[simp] theorem retractOk_setup : (retractOk s).setup = s.setup := by
  unfold retractOk
  (repeat' split) <;> simp

@[simp] theorem moveServed_setup (a b : BoardState) : (moveServed a b s).setup = s.setup := by
  unfold moveServed
  (repeat' split) <;> simp

@[simp] theorem liftOk_setup : (liftOk s).setup = s.setup := by
  unfold liftOk
  simp

@[simp] theorem liftDropped_setup : (liftDropped s).setup = s.setup := by
  unfold liftDropped
  dsimp only
  (repeat' split) <;> first | (simp; done) | rfl

@[simp] theorem stayHeld_setup : (stayHeld s).setup = s.setup := by
  unfold stayHeld
  dsimp only
  (repeat' split) <;> first | (simp; done) | rfl

@[simp] theorem stayLifted_setup : (stayLifted s).setup = s.setup := by
  unfold stayLifted
  dsimp only
  (repeat' split) <;> first | (simp; done) | rfl

@[simp] theorem loseServed_setup (w : LostReason) : (loseServed w s).setup = s.setup := by
  unfold loseServed
  (repeat' split) <;> simp

@[simp] theorem finishServed_setup (b : BoardState) (f : Panel → Panel) : (finishServed b f s).setup = s.setup := by
  unfold finishServed
  (repeat' split) <;> simp

@[simp] theorem countStacked_setup : (countStacked s).setup = s.setup := by
  rfl

@[simp] theorem placeOk_setup : (placeOk s).setup = s.setup := by
  unfold placeOk
  dsimp only
  (repeat' split) <;> first | (simp; done) | rfl

@[simp] theorem placeDropped_setup : (placeDropped s).setup = s.setup := by
  unfold placeDropped
  dsimp only
  (repeat' split) <;> first | (simp; done) | rfl

@[simp] theorem confirmPlacement_setup (v : Service) : (confirmPlacement v s).setup = s.setup := by
  unfold confirmPlacement
  dsimp only
  (repeat' split) <;> first | (simp; done) | rfl

@[simp] theorem laneActivated_setup (k : Nat) : (laneActivated k s).setup = s.setup := by
  unfold laneActivated
  (repeat' split) <;> simp

@[simp] theorem windowEnds_setup : (windowEnds s).setup = s.setup := by
  unfold windowEnds
  (repeat' split) <;> simp

@[simp] theorem laneStuck_setup (k : Nat) : (laneStuck k s).setup = s.setup := by
  unfold laneStuck
  (repeat' split) <;> simp

@[simp] theorem indexOk_setup : (indexOk s).setup = s.setup := by
  unfold indexOk
  (repeat' split) <;> simp

@[simp] theorem elevatorFault_setup (w : FaultReason) : (elevatorFault w s).setup = s.setup := by
  unfold elevatorFault
  (repeat' split) <;> simp

@[simp] theorem returnReady_setup (b : Nat) (f : Bool) : (returnReady b f s).setup = s.setup := by
  unfold returnReady
  (repeat' split) <;> simp

@[simp] theorem faultBoard_setup (q : PanelRef) (b : Nat) : (faultBoard q b s).setup = s.setup := by
  unfold faultBoard
  dsimp only
  (repeat' split) <;> first | (simp; done) | rfl

@[simp] theorem pickerFault_setup (w : FaultReason) : (pickerFault w s).setup = s.setup := by
  unfold pickerFault
  dsimp only
  (repeat' split) <;> first | (simp; done) | rfl

@[simp] theorem enterRefused_setup (o : LocOutcome) : (enterRefused o s).setup = s.setup := by
  unfold enterRefused
  simp

@[simp] theorem locationRefused_setup (o : LocOutcome) : (locationRefused o s).setup = s.setup := by
  unfold locationRefused
  (repeat' split) <;> simp

@[simp] theorem refuse_setup (o : LocOutcome) (d : Option Nat) : (refuse o d s).setup = s.setup := by
  unfold refuse
  simp

@[simp] theorem reachTab_setup (i : Nat) : (reachTab s i).setup = s.setup := by
  unfold reachTab
  (repeat' split) <;> simp

@[simp] theorem buildRelease_setup (i : Nat) : (buildRelease s i).setup = s.setup := by
  unfold buildRelease
  (repeat' split) <;> simp

@[simp] theorem buildTab_setup (k : TabKind) (i : Nat) : (buildTab k s i).setup = s.setup := by
  unfold buildTab
  (repeat' split) <;> simp

@[simp] theorem buildQueues_setup : (buildQueues s).setup = s.setup := by
  unfold buildQueues
  simp [foldl_setup]

@[simp] theorem testAllReady_setup : (testAllReady s).setup = s.setup := by
  unfold testAllReady
  simp [foldl_setup]

@[simp] theorem locationPassed_setup : (locationPassed s).setup = s.setup := by
  unfold locationPassed
  simp [foldl_setup]

@[simp] theorem retainMarkedTab_setup (i : Nat) : (retainMarkedTab s i).setup = s.setup := by
  unfold retainMarkedTab
  (repeat' split) <;> simp

@[simp] theorem retainMarkedBoard_setup (b : Nat) : (retainMarkedBoard s b).setup = s.setup := by
  unfold retainMarkedBoard
  (repeat' split) <;> simp

@[simp] theorem retainMarked_setup : (retainMarked s).setup = s.setup := by
  unfold retainMarked
  simp [foldl_setup]

@[simp] theorem mapTables_setup : (mapTables s).setup = s.setup := by
  unfold mapTables
  ((try dsimp only) <;> (repeat' split) <;> first | rfl | (simp [foldl_setup]; done) | (simp; rfl))

@[simp] theorem tryMapping_setup : (tryMapping s).setup = s.setup := by
  unfold tryMapping
  (repeat' split) <;> simp

@[simp] theorem issueLocate_setup : (issueLocate s).setup = s.setup := by
  unfold issueLocate
  (repeat' split) <;> simp

@[simp] theorem locateFound_setup (p q r : Pt) : (locateFound p q r s).setup = s.setup := by
  unfold locateFound
  dsimp only
  (repeat' split) <;> simp [foldl_setup]

@[simp] theorem locateDone_setup (r : Result) (st : Status) : (locateDone r st s).setup = s.setup := by
  unfold locateDone
  (repeat' split) <;> simp

@[simp] theorem visionFault_setup (w : FaultReason) : (visionFault w s).setup = s.setup := by
  unfold visionFault
  dsimp only
  (repeat' split) <;> simp [foldl_setup]

@[simp] theorem abandonLoc_setup : (abandonLoc s).setup = s.setup := by
  unfold abandonLoc
  (repeat' split) <;> simp

@[simp] theorem applyAbort_setup : (applyAbort s).setup = s.setup := by
  unfold applyAbort
  simp

@[simp] theorem abortActive_setup (m : AbortMark) (w : StopReason) : (abortActive m w s).setup = s.setup := by
  unfold abortActive
  (repeat' split) <;> simp

@[simp] theorem clampLost_setup : (clampLost s).setup = s.setup := by
  unfold clampLost
  (repeat' split) <;> simp

@[simp] theorem writeTables_setup (p : Panel) : (writeTables p s).setup = s.setup := by
  unfold writeTables
  split
  · exact (with_disp_setup _ _).trans (State.setHalf_setup ..)
  · rfl

@[simp] theorem expansionDone_setup : (expansionDone s).setup = s.setup := by
  unfold expansionDone
  (repeat' split) <;> simp

@[simp] theorem pickerBack_setup : (pickerBack s).setup = s.setup := by
  unfold pickerBack
  simp

@[simp] theorem elevatorBack_setup : (elevatorBack s).setup = s.setup := by
  unfold elevatorBack
  simp

@[simp] theorem nodeBack_setup (n : Node) : (nodeBack n s).setup = s.setup := by
  unfold nodeBack
  (repeat' split) <;> simp

@[simp] theorem clearLatch_setup (n : Node) : (clearLatch s n).setup = s.setup := by
  unfold clearLatch
  (repeat' split) <;> simp

@[simp] theorem enterRun_setup : (enterRun s).setup = s.setup := by
  unfold enterRun
  simp [foldl_setup]

@[simp] theorem nodeFault_setup (n : Node) (w : FaultReason) : (nodeFault n w s).setup = s.setup := by
  unfold nodeFault
  (repeat' split) <;> simp

@[simp] theorem headTaken_setup (h : Head) : (headTaken h s).setup = s.setup := by
  unfold headTaken
  dsimp only
  (repeat' split) <;> first | (simp; done) | rfl

@[simp] theorem pickerTaken_setup : (pickerTaken s).setup = s.setup := by
  unfold pickerTaken
  (repeat' split) <;> simp

@[simp] theorem elevatorTaken_setup : (elevatorTaken s).setup = s.setup := by
  unfold elevatorTaken
  (repeat' split) <;> simp

@[simp] theorem visionTaken_setup : (visionTaken s).setup = s.setup := by
  unfold visionTaken
  (repeat' split) <;> simp

@[simp] theorem orderTaken_setup (n : Node) : (orderTaken n s).setup = s.setup := by
  unfold orderTaken
  (repeat' split) <;> simp

@[simp] theorem testTaken_setup (n : Node) (k : Nat) : (testTaken n k s).setup = s.setup := by
  unfold testTaken
  dsimp only
  (repeat' split) <;> simp [foldl_setup]

@[simp] theorem headCompleted_setup (h : Head) (o : Order) (r : Result) (m : Nat) : (headCompleted h o r m s).setup = s.setup := by
  unfold headCompleted
  (repeat' split) <;> simp

@[simp] theorem pickerCompleted_setup (r : Result) : (pickerCompleted r s).setup = s.setup := by
  unfold pickerCompleted
  (repeat' split) <;> simp

@[simp] theorem elevatorCompleted_setup (r : Result) : (elevatorCompleted r s).setup = s.setup := by
  unfold elevatorCompleted
  (repeat' split) <;> simp

@[simp] theorem orderCompleted_setup (n : Node) (o : Order) (st : Status) : (orderCompleted n o st s).setup = s.setup := by
  unfold orderCompleted
  (repeat' split) <;> simp

@[simp] theorem testCompleted_setup (n : Node) (st : Status) : (testCompleted n st s).setup = s.setup := by
  unfold testCompleted
  dsimp only
  (repeat' split) <;> simp [foldl_setup]

@[simp] theorem tryEarlyLift_setup (h : Head) (r : Nat) : (tryEarlyLift h r s).setup = s.setup := by
  unfold tryEarlyLift
  (repeat' split) <;> simp

@[simp] theorem headData_setup (h : Head) (st : Status) : (headData h st s).setup = s.setup := by
  unfold headData
  dsimp only
  (repeat' split) <;> simp [foldl_setup]

@[simp] theorem nodeData_setup (n : Node) (st : Status) : (nodeData n st s).setup = s.setup := by
  unfold nodeData
  (repeat' split) <;> simp

@[simp] theorem firstFault_setup (n : Node) : (firstFault n s).setup = s.setup := by
  unfold firstFault
  (repeat' split) <;> simp

@[simp] theorem firstStatus_setup (n : Node) (f : Bool) : (firstStatus n f s).setup = s.setup := by
  unfold firstStatus
  (repeat' split) <;> simp

@[simp] theorem storeReported_setup (n : Node) (f : Bool) : (storeReported n f s).setup = s.setup := by
  unfold storeReported
  dsimp only
  (repeat' split) <;> simp [foldl_setup]

@[simp] theorem statusTaken_setup (n : Node) (st : Status) : (statusTaken n st s).setup = s.setup := by
  unfold statusTaken
  simp

@[simp] theorem loseContact_setup (n : Node) : (loseContact n s).setup = s.setup := by
  unfold loseContact
  simp

@[simp] theorem countAbsent_setup (n : Node) : (countAbsent s n).setup = s.setup := by
  unfold countAbsent
  ((try dsimp only) <;> (repeat' split) <;> first | rfl | (simp [foldl_setup]; done) | (simp; rfl))

@[simp] theorem contactWatch_setup (l : List Node) : (contactWatch l s).setup = s.setup := by
  unfold contactWatch
  simp [foldl_setup]

@[simp] theorem moveBoth_setup : (moveBoth s).setup = s.setup := by
  unfold moveBoth
  simp

end Sys2Proof.Machine
end

