-- ==== Sys2Proof/Tests/Slice0.lean ====
section
/-! SUPPORT. Tests: ill-formed commands refused by each check of WellFormed, one or two steps for each command with the results the
manual states, and for each statement a state and operands that meet its hypotheses. -/

open Sys2Proof Sys2Proof.Machine

namespace Sys2Proof.Tests

/-! ### Helpers -/

/-- The state after a command. -/
def after (c : Instr) (s : State) : State :=
  match exec c s with
  | .next t => t
  | .fault _ => s
  | .refused _ => s

/-- A request's reply code and data, from the back of the reply queue. -/
def reply (s : State) : Option (Code × List Byte) := s.req.replies.getLast?.map fun r => (r.code, r.data)

/-- The part after reset. -/
def s0 : State := State.reset

/-- The part in RUN. -/
def run0 : State := { s0 with lines := { s0.lines with causes := ⟨false, false, false⟩ } }

/-- The state with a recipe slot. -/
def withSlot (i : Nat) (r : RecipeSlot) (s : State) : State :=
  { s with recipes := { s.recipes with slots := s.recipes.slots.set i r } }

/-- The state with an active panel. -/
def withPanel (p : Panel) (s : State) : State := { s with tracker := { s.tracker with active := some p } }

/-- The state with an announced panel. -/
def withAnnounce (a : Announce) (s : State) : State := { s with tracker := { s.tracker with announce := [a] } }

/-- The state with a head's record. -/
def withHead (h : Head) (r : HeadRec) (s : State) : State := s.setHead h r

/-- The state with a lane. -/
def withLane (k : Nat) (l : Lane) (s : State) : State := { s with hand := { s.hand with lanes := s.hand.lanes.set k l } }

/-- The state with a rack position. -/
def withRack (i : Nat) (p : RackPos) (s : State) : State :=
  { s with spindle := { s.spindle with rack := s.spindle.rack.set i p } }

/-- Panel 1,201 of chapter 11. -/
def panel (st : PanelState) (expanding : Bool) : Panel :=
  { id := 1201, slot := 3, bad := [], state := st, boardCount := 6, tabCount := 16, half := .h0, expanding := expanding,
    pendingLoc := none, abort := none, stop := none, tally := ⟨0, 0, 0, 0⟩ }

/-- The recipe of section 1.7. -/
def items17 : List Item :=
  [ .fiducial 0 10000 10000, .fiducial 1 290000 10000, .opn 2 0 100000, .board 4 30000 30000 40000 40000,
    .tab .frame .h 70000 27500 2400 2 0, .tab .frame .h 70000 112500 2400 2 0, .opn 2 90000 0 ] ++
  [ .board 4 120000 30000 40000 40000, .tab .shared .v 115000 70000 2400 1 1, .tab .frame .h 160000 27500 2400 2 0,
    .tab .frame .h 160000 112500 2400 2 0, .cls, .cls ]

/-- A slot in a state, holding the recipe of section 1.7 with its declared count. -/
def slot17 (m : SlotMode) : RecipeSlot :=
  { RecipeSlot.reset with
    mode := m, items := items17.map some, declared := some 13, boards := some 6, tabs := some 16
    fids := some ⟨true, true, false⟩ }

/-- A slot with a validation in flight, answered to source 1 with tag 9. -/
def validating (check : Nat) : RecipeSlot :=
  { slot17 .validating with boards := none, tabs := none, fids := none, validation := some ⟨check, 1, 9⟩ }

/-- A tab of board `b`. -/
def tab (i b : Nat) (st : TabState) : Tab :=
  { index := i, kind := .frame, owner := b, linked := none, release := true, nomStart := ⟨68800, 27500⟩,
    nomEnd := ⟨71200, 27500⟩, corStart := some ⟨171103, 112812⟩, corEnd := some ⟨173503, 112816⟩, unreachable := false,
    len := 2400, feed := 2, attempts := 0, state := st, skipReason := none, standing := false, place := some .queueA,
    cutHead := none, settlement := none, lastCut := none, peak := none }

/-- A board of panel 1,201. -/
def board (st : BoardState) : Board :=
  { index := 0, variant := 4, bad := false, state := st, openTabs := 1, releaseTab := 1, nominal := ⟨70000, 70000⟩,
    corrected := some ⟨172229, 155309⟩, unreachable := false, attempts := 0, dest := none }

/-- A mounted bit. -/
def mounted (h : Head) (wear : Nat) : RackPos := { RackPos.reset with mode := .mounted, head := some h, cls := 1, wear := wear }

/-- A spare. -/
def spare (cls wear : Nat) : RackPos := { RackPos.reset with mode := .spare, cls := cls, wear := wear }

/-- A head cutting tab 0, its timer running. -/
def cuttingHead : HeadRec := { HeadRec.reset with state := .cutting, x := some 171103, tab := some 0, timer := some 10000 }

/-- A cell in RUN that cuts tab 0 of panel 1,201 with head A. -/
def cutCell : State :=
  let s := withHead .a cuttingHead (withRack 0 (mounted .a 12000) (withPanel (panel .cutting false) run0))
  { s with
    tracker := { s.tracker with half0 := [board .attached] }
    disp := { s.disp with tabs := [{ tab 0 0 .ordered with cutHead := some .a, place := none }] } }

/-- The picker serving board 0 for lane 1, slot 8, with an order outstanding. -/
def serving (k : PickerOrder) (st : BoardState) (w : Option Window) : State :=
  let s := withLane 1 { Lane.absent with state := .active, slots := [.reserved], variants := 16 } (withPanel (panel .cutting false) run0)
  { s with
    tracker := { s.tracker with half0 := [board st] }
    hand := { s.hand with
      picker := { state := .serving, reason := none, order := some (k, 7), timer := some 2000, retractDue := false }
      elevator := { state := .indexing, reason := none, order := some ⟨1, 0, 5⟩, timer := some 4000 }
      service := some { panel := 1201, board := 0, dest := .lane 1 0, index := .out, early := .none, contingency := false,
                        torn := false, window := w } } }

/-- Head A's change under way: position 1 goes back and position 2 is fetched. -/
def changing : State :=
  let s := withRack 2 { spare 1 400 with engaged := some .a } (withRack 1 (mounted .a 8519) run0)
  { withHead .a { HeadRec.reset with state := .changing } s with
    spindle := { s.spindle with
      due := ⟨true, false⟩
      change := ⟨some { outgoing := some 1, returned := false, fetch := some 2, state := .taken, timer := some 30000 }, none⟩ } }

/-- Port P UP. -/
def upP : State := s0.setPort .p { state := .up, rate := some .r100, timer := none, sync := 3, errRun := 15 }

/-- A frame without records: cycle count 1, record count 0, check B3F0. -/
def emptyFrame : List Byte := [0, 1, 0, 0, 0xB3, 0xF0]

/-- A frame with one record: CELL_HOLD from address 1 to address 10, tag 7. -/
def holdFrame : List Byte := [0, 1, 0, 1, 10, 1, 8, 1, 7, 0xC0, 0x6C]

/-! ### WellFormed: each check refuses a term that breaks it -/

theorem test_wf_accepts_load : Instr.wf (.recipeLoad 1 255 3 511 1 [.known (.exitAfter 255)]) = true := by decide
theorem test_wf_address : Instr.wf (.identify 64 0) = false := by decide
theorem test_wf_tag : Instr.wf (.identify 63 256) = false := by decide
theorem test_wf_byte : Instr.wf (.recipeDrop 1 0 256) = false := by decide
theorem test_wf_word : Instr.wf (.panelAbort 1 0 65536) = false := by decide
theorem test_wf_long : Instr.wf (.paramSet 1 0 0 4294967296) = false := by decide
theorem test_wf_byte_list : Instr.wf (.panelAnnounce 1 0 5 0 [256]) = false := by decide
theorem test_wf_list_count : Instr.wf (.recipeLoad 1 0 0 0 2 [.known .cls]) = false := by decide
theorem test_wf_short_list_ends_unknown : Instr.wf (.recipeLoad 1 0 0 0 2 [.unknown]) = true := by decide
theorem test_wf_coordinate : Instr.wf (.recipeLoad 1 0 0 0 1 [.known (.opn 1 2147483648 0)]) = false := by decide
theorem test_wf_item_word : Instr.wf (.recipeLoad 1 0 0 0 1 [.known (.tab .frame .h 0 0 65536 0 0)]) = false := by decide
theorem test_wf_item_byte : Instr.wf (.recipeLoad 1 0 0 0 1 [.known (.exitAfter 256)]) = false := by decide
theorem test_wf_fiducial : Instr.wf (.recipeLoad 1 0 0 0 1 [.known (.fiducial 256 0 0)]) = false := by decide
theorem test_wf_board : Instr.wf (.recipeLoad 1 0 0 0 1 [.known (.board 0 0 0 0 (-2147483649))]) = false := by decide
theorem test_wf_slot : Instr.wf (.validationEnd 8) = false := by decide

/-- No row of the table has bits, so no word spells a command. -/
theorem test_decode_none : decodeTableWord 16 0 = none := by decide

/-! ### Arithmetic: the manual's own numbers -/

/-- R30: 1.5 rounds to 2 and −1.5 to −2. -/
theorem test_round_half : roundDiv 1572864 1048576 = 2 ∧ roundDiv (-1572864) 1048576 = -2 := by decide
/-- R30: −1.4 rounds to −1 and −1.6 to −2. -/
theorem test_round_negative : roundDiv (-14) 10 = -1 ∧ roundDiv (-16) 10 = -2 := by decide
/-- Section 2.5: c, s and the picker angle. -/
theorem test_transform : transformC ⟨280000, 0⟩ ⟨279970, 490⟩ = 1048464 ∧ transformS ⟨280000, 0⟩ ⟨279970, 490⟩ = 1835 ∧
    pickerAngleOf 1835 = 1750 := by decide
/-- Section 2.5: the point (150,000, 60,000) maps to (252,238, 145,450). -/
theorem test_mapping : mapPoint ⟨10000, 10000⟩ ⟨112340, 95210⟩ 1048464 1835 ⟨150000, 60000⟩ = ⟨252238, 145450⟩ := by decide
/-- The check value of this polynomial and preset over the digits 1 to 9 is 29B1. -/
theorem test_check_digits : checkSeq [0x31, 0x32, 0x33, 0x34, 0x35, 0x36, 0x37, 0x38, 0x39] = 0x29B1#16 := by
  decide +kernel
/-- R101: the samples 310, 295, 280 and 301 give 296. -/
theorem test_filter_block :
    ([310, 295, 280, 301].foldl (fun f x => (f.sample 300 3600 x).1) Filter.reset).last = some 296 := by decide
/-- R104: a cut of 2,400 µm charges 5 mm. -/
theorem test_charge_done : ((accountDone .a 2400 (withRack 0 (mounted .a 12000) s0)).rackAt 0).map RackPos.wear = some 12005 := by
  decide
/-- R105: a cut of 2,400 µm stopped with 560 µm remaining charges 4 mm. -/
theorem test_charge_abort :
    let s := (withRack 0 (mounted .a 12000) s0).setFilter .a { Filter.reset with len := 2400 }
    ((accountAbort .a (some 560) s).rackAt 0).map RackPos.wear = some 12004 := by decide
/-- R198: CUT item encodings: TAB with form bits SHARED and V, most significant byte first (10.1, 10.5). -/
theorem test_item_reads_back : readItem (encodeItem (.tab .shared .v 115000 70000 2400 1 1)) =
    .item (.tab .shared .v 115000 70000 2400 1 1) [] := by decide

/-! ### Requests -/

/-- Section 1.7: the first load of 12 items raises the total to 12. -/
theorem test_load_total : (after (.recipeLoad 1 5 3 0 12 ((items17.take 12).map .known)) s0).recipes.total = 12 := by
  decide +kernel
/-- R8, check 4: the last item would stand at offset 512. -/
theorem test_load_too_long :
    reply (after (.recipeLoad 1 5 3 511 2 [.known .cls, .known .cls]) s0) = some (.tooLong, []) := by decide
theorem test_commit_empty : reply (after (.recipeCommit 1 5 3 13 0) s0) = some (.badState, []) := by decide
theorem test_commit_reserves : (after (.recipeCommit 1 5 3 13 0) (withSlot 3 (slot17 .loading) s0)).req.reserved = 1 := by
  decide
theorem test_drop_empties : ((after (.recipeDrop 1 5 3) (withSlot 3 (slot17 .faulty) s0)).recipes.slots[3]?).map
    RecipeSlot.mode = some .empty := by decide
/-- Section 1.7: the walk makes 6 boards and 16 tabs. -/
theorem test_walk_counts : (match (slot17 .loading).walk with
    | .whole w => (w.boards.length, w.tabs.length)
    | .error _ _ => (0, 0)) = (6, 16) := by decide +kernel
/-- Section 1.7: the tab counts and release tabs of the boards. -/
theorem test_walk_boards : (match (slot17 .loading).walk with
    | .whole w => w.boards.map fun b => (b.tabs, b.release)
    | .error _ _ => []) = [(3, some 1), (4, some 4), (3, some 7), (3, some 9), (4, some 12), (3, some 15)] := by
  decide +kernel
/-- R12: an unfilled offset below the declared count is a GAP with that offset. -/
theorem test_validation_gap :
    ((after (.validationEnd 3)
      (withSlot 3 { validating 1 with items := (items17.map some).set 5 none } s0)).recipes.slots[3]?).bind RecipeSlot.result =
        some ⟨.gap, some 5⟩ := by decide +kernel

/-- Two fiducials 50 mm apart, and nothing else. -/
def marks : List (Option Item) := [some (.fiducial 0 0 0), some (.fiducial 1 50000 0)]

/-- R14, R15: marks 50 mm apart are far enough, and with its check agreeing the slot becomes READY. -/
theorem test_validation_ready :
    ((after (.validationEnd 3)
      (withSlot 3 { validating (itemCheck marks) with items := marks, declared := some 2 } s0)).recipes.slots[3]?).map
        (fun r => (r.mode, r.boards, r.tabs)) = some (.ready, some 0, some 0) := by decide +kernel
theorem test_announce_joins :
    (after (.panelAnnounce 1 5 1201 3 []) (withSlot 3 (slot17 .ready) s0)).tracker.announce = [⟨1201, 3, []⟩] := by decide
theorem test_announce_not_ready : reply (after (.panelAnnounce 1 5 1201 3 []) s0) = some (.notReady, []) := by decide

/-- A panel announced with its slot READY and the clamp closed. -/
def announced : State :=
  let s := withAnnounce ⟨1201, 3, []⟩ (withSlot 3 (slot17 .ready) run0)
  { s with lines := { s.lines with clamp := Line.steady true } }

/-- Section 2.5: the search positions. -/
theorem test_start_search : (after (.panelStart 1 5) announced).locator.active.s1 = some ⟨310000, 30000⟩ := by decide
theorem test_start_unclamped : reply (after (.panelStart 1 5) (withAnnounce ⟨1201, 3, []⟩ s0)) = some (.notClamped, []) := by decide
theorem test_eject_closes :
    (after (.panelEject 1 5) (withPanel { panel .done false with tally := ⟨6, 0, 0, 0⟩ } s0)).tracker.lastTally =
      some ⟨1201, ⟨6, 0, 0, 0⟩⟩ := by decide
theorem test_eject_cutting : reply (after (.panelEject 1 5) (withPanel (panel .cutting false) s0)) = some (.badState, []) := by
  decide
theorem test_abort_stops_cut : ((after (.panelAbort 1 5 1201) cutCell).node .headA).order = .stop := by decide +kernel
theorem test_abort_unknown : reply (after (.panelAbort 1 5 1201) s0) = some (.notFound, []) := by decide
/-- R21, section 1.7: the expansion writes six boards and sixteen tabs. -/
theorem test_expansion_counts :
    let t := after .expansionComplete (withPanel (panel .locating true) (withSlot 3 (slot17 .ready) s0))
    (t.tracker.half0.length, t.disp.tabs.length) = (6, 16) := by decide +kernel
theorem test_hold_stops_cut : (after (.cellHold 1 5) cutCell).disp.heads.a.cause = some .hold := by decide
theorem test_hold_cause : (after (.cellHold 1 5) run0).lines.causes = ⟨true, false, false⟩ := by decide
theorem test_resume_runs : (after (.cellResume 1 5) s0).running = true := by decide
/-- R158: STOP stays in the set while STOP_IN is asserted. -/
theorem test_resume_busy : reply (after (.cellResume 1 5)
    { s0 with lines := { s0.lines with stopIn := Line.steady true, causes := ⟨true, true, false⟩ } }) =
      some (.busy, [2]) := by decide
theorem test_reset_stops_cut : (after (.cellReset 1 5) cutCell).disp.heads.a.cause = some .reset := by decide +kernel
theorem test_reset_frees_panel : (after (.cellReset 1 5) cutCell).tracker.active = none := by decide +kernel
/-- Chapter 11: LANE_SET(1, 10 slots, variant 4, TOP_DOWN, slot 9 blocked). -/
theorem test_lane_set : ((after (.laneSet 1 5 1 10 16 1 [9]) s0).hand.lanes[1]?).map
    (fun l => (l.state, l.slots)) = some (.active, List.replicate 9 .empty ++ [.blocked]) := by decide
theorem test_lane_set_all_blocked : ((after (.laneSet 1 5 1 1 16 0 [0]) s0).hand.lanes[1]?).map Lane.state = some .full := by decide
theorem test_lane_release_reserved :
    reply (after (.laneRelease 1 5 1) (serving .place .inTransit none)) = some (.busy, []) := by decide
theorem test_lane_release_absent : reply (after (.laneRelease 1 5 3) s0) = some (.ok, []) := by decide
theorem test_clear_jam :
    ((after (.laneClearJam 1 5 0) (withLane 0 { Lane.absent with state := .jammed, slots := [.filled] } s0)).hand.lanes[0]?).map
      Lane.state = some .full := by decide
theorem test_bin_emptied :
    (after (.binEmptied 1 5) { s0 with hand := { s0.hand with binFilled := 7, binReserved := 2 } }).hand.binFilled = 0 := by
  decide
/-- R108: a wear above 1,048,575 is stored as that and answered CLAMPED. -/
theorem test_rack_clamped : reply (after (.rackSet 1 5 7 1 3 1048576) s0) = some (.clamped, []) := by decide
/-- Chapter 11: the oldest waiting head is served with position 0. -/
theorem test_rack_serves :
    let s := withHead .a { HeadRec.reset with state := .noTool } s0
    let c : Change := { outgoing := none, returned := false, fetch := none, state := .awaitingRun, timer := none }
    let s := { s with spindle := { s.spindle with waiting := [.a], change := ⟨some c, none⟩ } }
    ((after (.rackSet 1 5 0 1 1 12000) s).rackAt 0).map RackPos.engaged = some (some .a) := by decide +kernel
theorem test_tool_change_due :
    (after (.toolChange 1 5 0) (withHead .a cuttingHead s0)).spindle.due.a = true := by decide
theorem test_tool_change_offline : reply (after (.toolChange 1 5 1) s0) = some (.badState, []) := by decide
/-- R183: LOAD_LOW is clamped below LOAD_HIGH's default of 3,600: 3,599 is 0E0F. -/
theorem test_param_load_low : reply (after (.paramSet 1 5 16 4000) s0) = some (.clamped, [16, 0, 0, 0x0E, 0x0F]) := by
  decide +kernel
/-- R182, step 3: LEAD_HEAD takes 0 and 1 only. -/
theorem test_param_lead_head : reply (after (.paramSet 1 5 4 2) s0) = some (.range, []) := by decide
/-- R181: DEBOUNCE's default is 6. -/
theorem test_param_get : reply (after (.paramGet 1 5 32) s0) = some (.ok, [32, 0, 0, 0, 6]) := by decide
theorem test_table_not_found : reply (after (.tableRead 1 5 1 0 0 1) s0) = some (.notFound, []) := by decide
theorem test_table_range : reply (after (.tableRead 1 5 9 0 0 1) s0) = some (.range, []) := by decide
theorem test_mask_range : reply (after (.noticeMask 1 5 5) s0) = some (.range, []) := by decide
theorem test_mask_set : (after (.noticeMask 1 5 4) s0).notices.mask = 4 := by decide
theorem test_level_set : ((after (.noticeLevel 1 5 19 3) s0).notice 19).map NoticeRec.level = some 3 := by decide
/-- R188: 2,417 is 0971 and 4,120 is 1018; the strap address of State.reset is 10. -/
theorem test_identify : reply (after (.identify 1 5) s0) = some (.ok, [0x09, 0x71, 0x10, 0x18, 3, 10]) := by decide
theorem test_passive_silent :
    (after (.identify 1 5) { s0 with lines := { s0.lines with strap := 63 } }).req.replies = [] := by decide

/-! ### The ring -/

theorem test_frame_turned : (after (.frameOnPortP emptyFrame) upP).ring.armed = true := by decide +kernel
/-- A request carried by a good frame is received (R167). -/
theorem test_frame_request : (after (.frameOnPortP holdFrame) upP).req.requests = [⟨1, 7, .cellHold⟩] := by decide +kernel
theorem test_frame_n_discarded : (after (.frameOnPortN emptyFrame) s0).ring.sent = none := by decide
theorem test_loss_retrains : ((after (.lossOfSignal .p) upP).port .p).state = .training := by decide
theorem test_error_run : ((after (.symbolErrorRun .p) upP).port .p).rate = some .r100 := by decide
theorem test_enters_up : ((after (.portEntersUp .n) s0).port .n).state = .up := by decide
theorem test_training_rate : ((after (.trainingTimerExpiry .n) s0).port .n).rate = some .r50 := by decide
theorem test_error_sixteen : ((after (.symbolReceived .p .error) upP).port .p).state = .training := by decide
theorem test_sync_broken :
    ((after (.symbolReceived .p .other) (s0.setPort .p { PortRec.training with sync := 2 })).port .p).sync = 0 := by decide
theorem test_take_timeout :
    let s := s0.setNode .vision { NodeRec.reset with seq := 1, takeTimer := some 20, present := true }
    ((after (.takeTimeout .vision) s).node .vision).latch = some .take := by decide
theorem test_contact_loss :
    let s := s0.setNode .elevator { NodeRec.reset with present := true }
    let s := { s with hand := { s.hand with elevator := { s.hand.elevator with state := .idle } } }
    ((after (.contactLoss .elevator) s).node .elevator).latch = some .contact := by decide
theorem test_silence_cause :
    (after .silenceTimerExpiry { run0 with ring := { run0.ring with silenceTimer := some 20 } }).lines.causes.silence = true := by
  decide

/-! ### Lines, reset and timers -/

/-- The state with STOP_IN's record. -/
def withStop (r : Line) : State := { run0 with lines := { run0.lines with stopIn := r } }

theorem test_stop_asserted : (after (.stopInChange true) (withStop (Line.steady false))).lines.causes.stop = true := by decide
theorem test_stop_release_timed :
    (after (.stopInChange false) (withStop (Line.steady true))).lines.stopIn.timer = some 6 := by decide
theorem test_line_bounce :
    (after (.lineRawChange .clampSense false)
      { s0 with lines := { s0.lines with clamp := ⟨true, false, some 6⟩ } }).lines.clamp.timer = none := by decide
theorem test_steady_lane :
    ((after (.steadyTimerExpiry (.sense (.laneSense 2)))
      (s0.setSense (.laneSense 2) ⟨true, false, some 6⟩)).lines.lanes[2]?).map LaneLine.stuckTimer = some (some 1500) := by decide
theorem test_stuck_jams :
    let s := withLane 0 { Lane.absent with state := .active, slots := [.empty] } s0
    let s := s.modLaneLine 0 fun q => { q with stuckTimer := some 1500 }
    ((after (.stuckTimerExpiry 0) s).hand.lanes[0]?).map Lane.state = some .jammed := by decide
theorem test_power_on_strap : (after (.powerOn 21) run0).lines.strap = 21 := by decide
theorem test_reset_in_down : ((after .resetInAsserted run0).port .p).state = .down := by decide
theorem test_reset_in_released :
    ((after (.resetInReleased 21) (after .resetInAsserted run0)).port .p).state = .training := by decide
theorem test_head_timer : (after (.headTimerExpiry .a) cutCell).disp.heads.a.reason = some .cutTimeout := by decide +kernel
theorem test_tool_timeout : ((after (.toolTimeout .a) changing).rackAt 1).map RackPos.mode = some .spare := by decide +kernel
theorem test_locate_timeout :
    let s := withPanel (panel .locating true) run0
    let s := { s with locator := { s.locator with active := { LocRec.free with state := .measuring, timer := some 3000 } } }
    (after .locateTimeout s).tracker.active.map Panel.pendingLoc = some (some .timeout) := by decide
theorem test_pick_timer : ((after .pickTimerExpiry (serving .pick .gripWait none)).node .picker).order = .retract := by decide
theorem test_picker_timeout :
    (after .pickerOrderTimeout (serving .lift .free none)).hand.picker.reason = some .timeout := by decide +kernel
theorem test_index_timeout :
    (after .indexTimeout (serving .pick .gripWait none)).hand.elevator.reason = some .timeout := by decide +kernel
theorem test_confirm_window :
    ((after .confirmWindowEnd (serving .place .inTransit (some (.closing 400)))).hand.lanes[1]?).map Lane.suspect = some 1 := by
  decide +kernel

/-! ### Witnesses: for each statement with hypotheses, a state and operands that meet them, clause by clause -/

/-- Any request. -/
def q0 : Request := ⟨1, 2, .binEmptied⟩
/-- Another one. -/
def q1 : Request := ⟨1, 3, .panelStart⟩
/-- The state with these requests queued. -/
def queued (l : List Request) (s : State) : State := { s with req := { s.req with requests := l } }
/-- The state with eight replies held. -/
def full (s : State) : State := { s with req := { s.req with replies := List.replicate 8 ⟨1, 0, 8, .ok, []⟩ } }
/-- The state with a command waiting. -/
def waiting (c : Instr) (s : State) : State := { s with pending := [c] }

theorem wit_step_command : (waiting .expansionComplete s0).pending = [.expansionComplete] := rfl
theorem wit_step_idle : s0.pending = [] ∧ s0.req.requests = [] := by decide
theorem wit_step_no_room : (full (queued [q0] s0)).pending = [] ∧ (full (queued [q0] s0)).replyRoom = false := by decide
theorem wit_step_front : (queued [q0] s0).pending = [] ∧ (queued [q0] s0).req.requests = q0 :: [] ∧
    (queued [q0] s0).replyRoom = true := by decide

theorem wit_request_deaf : requestOf (.binEmptied 1 2) = some q0 ∧ (after .resetInAsserted s0).serving = false := by decide
theorem wit_request_at_once : s0.serving = true ∧ s0.req.requests = [] ∧ s0.replyRoom = true := by decide
theorem wit_request_front : (queued [q1, q0, q1] s0).serving = true ∧ (queued [q1, q0, q1] s0).req.requests = q1 :: [q0, q1] ∧
    (queued [q1, q0, q1] s0).req.requests.length < 4 ∧ (queued [q1, q0, q1] s0).replyRoom = true := by decide
theorem wit_request_joins : (full (queued [q0, q1, q0] s0)).serving = true ∧
    (full (queued [q0, q1, q0] s0)).req.requests.length < 4 ∧ (full (queued [q0, q1, q0] s0)).replyRoom = false := by decide
/-- The state with the reply queue one short of full. -/
def oneShort (s : State) : State := { s with req := { s.req with replies := List.replicate 7 ⟨1, 0, 8, .ok, []⟩ } }
theorem wit_request_queue_full : let s := queued [q1, q1, q1, q1] s0
    s.serving = true ∧ s.req.requests = q1 :: [q1, q1, q1] ∧ 4 ≤ s.req.requests.length ∧ s.replyRoom = true ∧
      (s.answer 1 2 14 .queueFull []).replyRoom = true := by decide
theorem wit_request_queue_full_last : let s := oneShort (queued [q1, q1, q1, q1] s0)
    s.serving = true ∧ s.req.requests = q1 :: [q1, q1, q1] ∧ 4 ≤ s.req.requests.length ∧ s.replyRoom = true ∧
      (s.answer 1 2 14 .queueFull []).replyRoom = false := by decide
/-- R179: a request equal to one that waits, tag and all, is queued behind it. -/
theorem test_equal_requests_are_two :
    (after (.panelStart 1 3) (after (.panelStart 1 3) (full s0))).req.requests = [q1, q1] := by decide
theorem wit_request_dropped : 4 ≤ (full (queued [q1, q1, q1, q1] s0)).req.requests.length ∧
    (full (queued [q1, q1, q1, q1] s0)).replyRoom = false := by decide

theorem wit_refused_range : act ⟨1, 2, .recipeDrop 8⟩ s0 = (s0, some (.range, [])) := rfl
theorem wit_refused_busy : act ⟨1, 2, .panelStart⟩ (withPanel (panel .done false) s0) =
    (withPanel (panel .done false) s0, some (.busy, [])) := rfl

/-- A state that meets every law, with a command waiting. -/
def lawful : State := waiting (.binEmptied 1 2) s0

theorem wit_laws_step : ∃ t, step lawful = .next t := ⟨_, rfl⟩
theorem wit_laws_shape : lawful.shape = true := by decide
theorem wit_laws_params : lawful.binLaw = true ∧ lawful.paramsInRange = true ∧ lawful.loadOrdered = true := by decide
/-- The bin full to the greatest capacity there is. -/
def fullBin : State :=
  { lawful with
    hand := { lawful.hand with binFilled := 249, binReserved := 1 }
    req := { lawful.req with params := lawful.req.params.set 35 250 } }
theorem wit_laws_params_full : fullBin.binLaw = true ∧ fullBin.paramsInRange = true ∧ fullBin.loadOrdered = true := by decide
theorem wit_laws_replies : lawful.queuesBounded = true ∧ lawful.reservedLaw = true := by decide
theorem wit_laws_bin : lawful.binLaw = true := by decide
theorem wit_laws_store : lawful.storeLaw = true := by decide +kernel
theorem wit_laws_ring : lawful.portsOk = true ∧ lawful.nodesOk = true := by decide
theorem wit_laws_notices : lawful.noticesOk = true := by decide

/-- The state after a step. -/
def stepped (s : State) : State :=
  match step s with
  | .next t => t
  | .fault _ => s
  | .refused _ => s

theorem wit_held : lawful.running = false ∧ step lawful = .next (stepped lawful) ∧ (stepped lawful).running = false :=
  ⟨by decide, rfl, by decide⟩
theorem wit_held_own_request : let s := queued [⟨1, 2, .cellReset⟩] s0
    s.pending = [] ∧ s.running = false ∧ step s = .next (stepped s) ∧ (stepped s).running = false ∧
      (stepped s).req.requests = [] := ⟨rfl, by decide, rfl, by decide +kernel, by decide +kernel⟩
/-- The cell HELD with every cause, STOP_IN released and a good frame heard. -/
def causesOver : State := { s0 with lines := { s0.lines with causes := ⟨true, true, true⟩, stopIn := Line.steady false } }
theorem wit_enters_run : let s := waiting (.cellResume 1 2) causesOver
    s.running = false ∧ step s = .next (stepped s) ∧ (stepped s).running = true ∧ s.lines.causes.stop = true ∧
      s.lines.causes.silence = true := ⟨by decide, rfl, by decide, rfl, rfl⟩
theorem wit_enters_run_own_request : let s := queued [⟨1, 2, .cellResume⟩] causesOver
    s.running = false ∧ step s = .next (stepped s) ∧ (stepped s).running = true := ⟨by decide, rfl, by decide⟩

/-! Recipes. -/

theorem wit_ready : s0.ready = true ∧ s0.recipes.slots.length = 8 := by decide
theorem wit_load_range : 8 ≤ 8 ∨ 512 ≤ 512 ∨ 0 = 0 ∨ 12 < 13 := by decide
theorem wit_load_slot : s0.recipes.slots[7]? = some RecipeSlot.reset ∧ 511 < 512 ∧ 0 < 1 ∧ 12 ≤ 12 := ⟨rfl, by decide⟩
theorem wit_load_busy : (withSlot 7 (validating 0) s0).slotBusy 7 = true ∧
    (withAnnounce ⟨5, 7, []⟩ (withSlot 7 (slot17 .ready) s0)).slotBusy 7 = true := by decide
theorem wit_load_bad_item : s0.slotBusy 7 = false ∧ [LoadItem.unknown].all loadItemOk = false ∧
    [LoadItem.known (.exitAfter 64)].all loadItemOk = false := by decide
theorem wit_load_too_long : s0.slotBusy 7 = false ∧ [LoadItem.known .cls, .known (.exitAfter 63)].all loadItemOk = true ∧
    512 < 511 + 2 := by decide
/-- The state with a store total. -/
def stored (n : Nat) : State := { s0 with recipes := { s0.recipes with total := n } }
theorem wit_load_full : (stored 2048).ready = true ∧ (stored 2048).slotBusy 7 = false ∧ 511 + 1 ≤ 512 ∧
    2048 < (stored 2048).recipes.total + unfilled RecipeSlot.reset.items 511 1 := by decide +kernel
theorem wit_load_stores : (stored 2047).ready = true ∧ (stored 2047).recipes.slots[7]? = some RecipeSlot.reset ∧
    RecipeSlot.reset.items.length = 512 ∧ [Item.cls] ≠ [] ∧ [Item.cls].length ≤ 12 ∧ (stored 2047).slotBusy 7 = false ∧
    [Item.cls].all itemOk = true ∧ 511 + [Item.cls].length ≤ 512 ∧
    (stored 2047).recipes.total + unfilled RecipeSlot.reset.items 511 [Item.cls].length ≤ 2048 :=
  ⟨by decide, rfl, by decide +kernel, by decide, by decide, by decide, by decide, by decide, by decide +kernel⟩
theorem wit_commit_range : 8 ≤ 8 ∨ 0 = 0 ∨ 512 < 513 := by decide
theorem wit_commit_busy : (withSlot 0 (validating 0) s0).slotBusy 0 = true ∧
    (withSlot 0 (validating 0) s0).recipes.slots[0]? = some (validating 0) := ⟨by decide, rfl⟩
theorem wit_commit_empty : s0.slotBusy 7 = false ∧ RecipeSlot.reset.mode = .empty := by decide
theorem wit_commit_starts : (withSlot 3 (slot17 .ready) s0).ready = true ∧
    (withSlot 3 (slot17 .ready) s0).recipes.slots[3]? = some (slot17 .ready) ∧ 0 < 512 ∧ 512 ≤ 512 ∧
    (withSlot 3 (slot17 .ready) s0).slotBusy 3 = false ∧ (slot17 .ready).mode ≠ .empty :=
  ⟨by decide, rfl, by decide, by decide, by decide, by decide⟩
theorem wit_validation_not : s0.recipes.slots[0]? = some RecipeSlot.reset ∧ RecipeSlot.reset.mode ≠ .validating :=
  ⟨rfl, by decide⟩
theorem wit_validation_error : (validating 1).mode = .validating ∧ (validating 1).validation = some ⟨1, 1, 9⟩ ∧
    ({ validating 1 with items := (items17.map some).set 5 none }).validate = .inl (.gap, 5) :=
  ⟨rfl, rfl, by decide +kernel⟩
/-- The recipe of two marks, being validated. -/
def markSlot : RecipeSlot := { validating (itemCheck marks) with items := marks, declared := some 2 }
theorem wit_validation_whole : markSlot.mode = .validating ∧ markSlot.validation.isSome = true ∧
    markSlot.validate = .inr { pos := 2, stack := [], boards := [], tabs := [] } := ⟨rfl, rfl, by decide +kernel⟩
theorem wit_valid_recipe : (marks.all fun i => i.all itemOk) = true ∧
    markSlot.validate = .inr { pos := 2, stack := [], boards := [], tabs := [] } := ⟨by decide, by decide +kernel⟩
/-- Two marks, and a board with its release tab in a repeat. -/
def boardItems : List (Option Item) :=
  marks ++ [some (.opn 2 0 50000), some (.board 4 0 0 0 0), some (.tab .frame .h 2000 0 2400 2 0), some .cls]
/-- That recipe, being validated with a check. -/
def boardSlot (check : Nat) : RecipeSlot := { validating check with items := boardItems, declared := some 6 }
/-- What its walk makes. -/
def boardWalk : Walk :=
  { pos := 6, stack := []
    boards := [⟨4, ⟨0, 0⟩, 1, some 0⟩, ⟨4, ⟨0, 50000⟩, 1, some 1⟩]
    tabs := [⟨.frame, 0, none, ⟨800, 0⟩, ⟨3200, 0⟩, 2400, 2⟩, ⟨.frame, 1, none, ⟨800, 50000⟩, ⟨3200, 50000⟩, 2400, 2⟩] }
theorem boardSlot_validates (check : Nat) (agrees : itemCheck boardItems = check) :
    (boardSlot check).validate = .inr boardWalk := by
  have filled : (boardSlot check).gap = none := rfl
  have whole : (boardSlot check).program = boardItems := rfl
  have given : (boardSlot check).validation.map Validation.check = some check := rfl
  have walked : (boardSlot check).walk = .whole boardWalk := by rw [RecipeSlot.walk, whole]; decide +kernel
  have passes : afterWalk boardItems boardWalk = none := by decide +kernel
  simp only [RecipeSlot.validate, filled, whole, given, agrees, walked, passes, ne_eq, not_true_eq_false, if_false]
theorem wit_valid_recipe_items : (boardItems.all fun i => i.all itemOk) = true ∧
    (boardItems.all fun i => match i with
      | some (.exitAfter _) => false
      | _ => true) = true := by decide
theorem wit_valid_recipe_whole : (boardSlot (itemCheck boardItems)).validate = .inr boardWalk :=
  boardSlot_validates (itemCheck boardItems) rfl

/-! Panels. -/

theorem wit_start_busy : (withPanel (panel .done false) s0).tracker.active.isSome = true ∧
    (withPanel (panel .done false) s0).ready = true := by decide
theorem wit_start_unclamped : s0.tracker.active = none ∧ s0.lines.clamp.cond = false := by decide
theorem wit_start_nothing : let s : State := { s0 with lines := { s0.lines with clamp := Line.steady true } }
    s.ready = true ∧ s.tracker.active = none ∧ s.lines.clamp.cond = true ∧ s.tracker.announce = [] := by decide
theorem wit_eject_none : s0.ready = true ∧ s0.tracker.active = none := by decide
theorem wit_eject_cutting : (withPanel (panel .cutting false) s0).tracker.active = some (panel .cutting false) ∧
    ((panel .cutting false).state = .locating ∨ (panel .cutting false).state = .cutting) := ⟨rfl, by decide⟩
/-- A DONE panel with a closing one before it. -/
def twoPanels : State :=
  let s := withPanel (panel .done false) s0
  { s with tracker := { s.tracker with closing := some { panel .closing false with id := 1200, half := .h1 } } }
theorem wit_eject_busy : twoPanels.ready = true ∧ (panel .done false).state = .done ∧ twoPanels.tracker.closing.isSome = true := by
  decide
theorem wit_abort_unknown : s0.ready = true ∧ s0.idUsed 65535 = false := by decide
theorem wit_abort_done : (∀ a ∈ twoPanels.tracker.announce, a.id ≠ 1201) ∧
    twoPanels.tracker.active = some (panel .done false) ∧ (panel .done false).id = 1201 := ⟨by decide, rfl, rfl⟩
theorem wit_abort_closing : (∀ a ∈ twoPanels.tracker.announce, a.id ≠ 1200) ∧
    twoPanels.tracker.closing.map Panel.id = some 1200 ∧ twoPanels.tracker.active.map Panel.id = some 1201 := by decide
theorem wit_announce_range : 8 ≤ 8 ∨ 96 < (List.replicate 97 0).length ∨ (∃ i ∈ [96], 96 ≤ i) ∨ ¬ [0, 0].Nodup := by decide
/-- Two announced panels, slot 3 READY. -/
def twoAnnounced : State :=
  let s := withSlot 3 (slot17 .ready) s0
  { s with tracker := { s.tracker with announce := [⟨1, 3, []⟩, ⟨2, 3, []⟩] } }
theorem wit_announce_full : twoAnnounced.ready = true ∧ ¬ (8 ≤ 3 ∨ 96 < [95].length ∨ (∃ i ∈ [95], 96 ≤ i) ∨ ¬ [95].Nodup) ∧
    2 ≤ twoAnnounced.tracker.announce.length := by decide
theorem wit_announce_not_ready : s0.tracker.announce.length < 2 ∧ s0.recipes.slots[7]? = some RecipeSlot.reset ∧
    RecipeSlot.reset.mode ≠ .ready := ⟨by decide, rfl, by decide⟩
theorem wit_announce_duplicate : announced.ready = true ∧ announced.tracker.announce.length < 2 ∧
    (slot17 .ready).mode = .ready ∧ announced.idUsed 1201 = true := by decide
theorem wit_announce_bad : announced.idUsed 1202 = false ∧ ∃ i ∈ [6], (slot17 .ready).boards.getD 0 ≤ i := by decide
theorem wit_announce_joins : announced.recipes.slots[3]? = some (slot17 .ready) ∧ announced.idUsed 1202 = false ∧
    (∀ i ∈ [5, 0], i < (slot17 .ready).boards.getD 0) ∧
    ¬ (8 ≤ 3 ∨ 96 < [5, 0].length ∨ (∃ i ∈ [5, 0], 96 ≤ i) ∨ ¬ [5, 0].Nodup) := ⟨rfl, by decide, by decide, by decide⟩
theorem wit_withdraw : announced.ready = true ∧ ∃ a ∈ announced.tracker.announce, a.id = 1201 := by decide
/-- The cell HELD with a panel announced. -/
def announcedHeld : State := { announced with lines := { announced.lines with causes := ⟨true, false, false⟩ } }
/-- The cell in RUN with a panel announced and the vision node present. -/
def announcedSeen : State := announced.setNode .vision { NodeRec.reset with present := true }
theorem wit_start : announced.ready = true ∧ announced.tracker.active = none ∧ announced.lines.clamp.cond = true ∧
    announced.tracker.announce = ⟨1201, 3, []⟩ :: [] ∧ announced.recipes.slots[3]? = some (slot17 .ready) ∧
    (slot17 .ready).nominal 0 = some ⟨10000, 10000⟩ ∧ (slot17 .ready).nominal 1 = some ⟨290000, 10000⟩ :=
  ⟨by decide, by decide, by decide, by decide, rfl, by decide, by decide⟩
theorem wit_start_held : announcedHeld.ready = true ∧ announcedHeld.running = false := by decide
theorem wit_start_seen : announcedSeen.ready = true ∧ announcedSeen.running = true ∧ announcedSeen.visionState = .idle := by
  decide
theorem wit_start_blind : announced.running = true ∧ announced.visionState = .offline := by decide
/-- A DONE panel with its board in a state. -/
def donePanel (st : BoardState) : State :=
  let s := withPanel (panel .done false) s0
  { s with tracker := { s.tracker with half0 := [board st] } }
theorem wit_eject : (donePanel .stacked).ready = true ∧ (donePanel .stacked).tracker.active = some (panel .done false) ∧
    (panel .done false).state = .done ∧ (donePanel .stacked).tracker.closing = none ∧
    (∀ b ∈ (donePanel .stacked).boards .active, b.state ≠ .inTransit) := ⟨by decide, rfl, rfl, by decide, by decide⟩
theorem wit_eject_moves : (donePanel .inTransit).ready = true ∧
    ∃ b ∈ (donePanel .inTransit).boards .active, b.state = .inTransit := by decide
theorem wit_abort_again : let p := { panel .cutting false with abort := some .aborted }
    (withPanel p s0).ready = true ∧ p.state = .cutting ∧ p.abort.isSome = true := by decide
theorem wit_abort_pending : let p := { panel .locating true with pendingLoc := some .timeout }
    (withPanel p s0).ready = true ∧ p.state = .locating ∧ p.pendingLoc.isSome = true := by decide
/-- A panel being located by a part in RUN. -/
def locateCell (expanding : Bool) : State := withPanel (panel .locating expanding) run0
theorem wit_abort_cutting : cutCell.ready = true ∧ cutCell.tracker.active = some (panel .cutting false) ∧
    (∀ a ∈ cutCell.tracker.announce, a.id ≠ 1201) ∧ (panel .cutting false).abort = none ∧ (cutCell.head .a).state = .cutting :=
  ⟨by decide, rfl, by decide, rfl, by decide⟩
theorem wit_abort_boards : cutCell.tracker.closing = none ∧ cutCell.tracker.pickQueue = [] ∧
    (locateCell false).tracker.active = some (panel .locating false) ∧ (locateCell false).ready = true :=
  ⟨rfl, rfl, rfl, by decide⟩
/-- Board 0 served by the picker, board 1 RETAINED, and tabs of every kind at them. -/
def retaining (st : BoardState) (order : Option (PickerOrder × Nat)) : State :=
  let s := serving .pick st none
  { s with
    tracker := { s.tracker with half0 := [{ board st with bad := true, dest := some .bin }, board (.retained .tabFailed)] }
    hand := { s.hand with picker := { s.hand.picker with order := order }, binReserved := 2 }
    disp := { s.disp with tabs :=
      [ tab 0 0 .pending, tab 1 0 .held, tab 2 0 .ordered, tab 3 0 .done,
        { tab 4 1 .queued with kind := .shared, linked := some 0 }, tab 5 1 .queued ] } }
theorem wit_retain : (retaining .gripWait none).tracker.active = some (panel .cutting false) ∧
    ((retaining .gripWait none).half .h0)[0]? = some { board .gripWait with bad := true, dest := some .bin } ∧
    ((retaining .releasing none).boardState .active 0) = some .releasing ∧
    (retaining .attached none).serves 1201 0 = true ∧ (retaining .attached none).serves 1201 1 = false := ⟨rfl, rfl, rfl, by decide, by decide⟩
theorem wit_retain_served : (retaining .gripped (some (.retract, 7))).hand.service.map (fun v => (v.panel, v.board, v.dest)) =
    some (1201, 0, .lane 1 0) ∧ (retaining .gripped none).slot 1 0 = some .reserved ∧
    (retaining .gripped (some (.pick, 7))).hand.picker.order = some (.pick, 7) ∧ (retaining .gripped none).running = true ∧
    (retaining .gripped none).hand.picker.order = none ∧
    ({ retaining .gripped none with lines := s0.lines } : State).running = false := by decide
theorem wit_retain_tabs : (List.range 6).map (fun i => ((retaining .gripWait none).tab i).map fun x => (x.owner, x.linked, x.state)) =
    [ some (0, none, .pending), some (0, none, .held), some (0, none, .ordered), some (0, none, .done),
      some (1, some 0, .queued), some (1, none, .queued) ] ∧ (retaining .gripWait none).isRetained 1 = true := by decide
/-- Board 0 with one tab open, its release tab in a state. -/
def oneOpen (p : Panel) (bad : Bool) (release : TabState) (held : Nat) : State :=
  let s := withPanel p run0
  { s with
    tracker := { s.tracker with half0 := [{ board .attached with bad := bad, releaseTab := 0 }] }
    disp := { s.disp with tabs := [tab 0 0 release] }
    hand := { s.hand with binFilled := held } }
theorem wit_ready_test : (oneOpen (panel .cutting false) false .held 0).tracker.active = some (panel .cutting false) ∧
    ((oneOpen (panel .cutting false) true .held 99).half .h0)[0]? = some { board .attached with bad := true, releaseTab := 0 } ∧
    (board .attached).openTabs = 1 ∧ ((oneOpen (panel .cutting false) true .held 99).tab 0).map Tab.state = some .held ∧
    ((oneOpen (panel .cutting false) true .done 99).tab 0).map Tab.state = some .done ∧ 99 + 0 < s0.param .rejectCapacity ∧
    s0.param .rejectCapacity ≤ 100 + 0 ∧ (board .attached).dest = none := ⟨rfl, rfl, by decide⟩
theorem wit_ready_test_aborted : let p := { panel .cutting false with abort := some .aborted }
    (oneOpen p false .held 0).tracker.active = some p ∧ p.abort.isSome = true := ⟨rfl, rfl⟩
/-- A panel in LOCATING, its locator record in a state. -/
def locatingAt (l : LocState) : State :=
  { locateCell true with locator := { s0.locator with active := { LocRec.free with state := l } } }
theorem wit_abort_location : (∀ l ∈ [LocState.measuring, .waiting, .passed, .refused], (locatingAt l).ready = true ∧
      (locatingAt l).locator.active.state = l) ∧ (locatingAt .waiting).tracker.active = some (panel .locating true) ∧
    (panel .locating true).abort = none ∧ (panel .locating true).pendingLoc = none := ⟨by decide, rfl, rfl, rfl⟩
theorem wit_abort_locating : (panel .locating true).state = .locating ∧ (panel .locating true).expanding = true ∧
    (panel .locating false).expanding = false ∧ (panel .locating false).pendingLoc = none := by decide
/-- A panel being expanded, in a pending condition, with its locator record in a state. -/
def expanding (p : Panel) (l : LocState) : State :=
  let s := withPanel p (withSlot 3 (slot17 .ready) s0)
  { s with locator := { s.locator with active := { LocRec.free with state := l } } }
theorem wit_expansion_none : s0.expanding = false := by decide
theorem wit_expansion : (expanding (panel .locating true) .waiting).tracker.active = some (panel .locating true) ∧
    (panel .locating true).expanding = true ∧ (panel .locating true).state = .locating ∧
    (expanding (panel .locating true) .waiting).recipes.slots[3]? = some (slot17 .ready) ∧
    (panel .locating true).abort = none ∧ (panel .locating true).pendingLoc = none ∧
    (expanding (panel .locating true) .waiting).locator.active.state ≠ .passed ∧
    (expanding (panel .locating true) .passed).locator.active.state = .passed := ⟨rfl, rfl, rfl, rfl, rfl, rfl, by decide, rfl⟩
theorem wit_expansion_walk : (match (slot17 .ready).walk with
    | .whole _ => true
    | .error _ _ => false) = true := by decide +kernel
theorem wit_expansion_passed : let s := expanding (panel .locating true) .passed
    s.tracker.closing = none ∧ (s.head .a).queue = [] ∧ (s.head .b).queue = [] ∧ s.locator.active.state = .passed := by decide
theorem wit_expansion_waits : (expanding (panel .locating true) .waiting).ev = EventMarks.clear ∧
    (expanding (panel .locating true) .waiting).tracker.closing = none := ⟨rfl, rfl⟩
theorem wit_expansion_aborted : let p := { panel .locating true with abort := some .unclamped }
    (expanding p .waiting).tracker.active = some p ∧ p.abort.isSome = true ∧ p.expanding = true := ⟨rfl, rfl, rfl⟩
theorem wit_expansion_refused : let p := { panel .locating true with pendingLoc := some .scale }
    (expanding p .refused).tracker.active = some p ∧ p.abort = none ∧ p.pendingLoc = some .scale := ⟨rfl, rfl, rfl⟩

/-! The cell's requests, the magazine and the rack. -/

theorem wit_hold : run0.ready = true ∧ s0.ready = true ∧ s0.lines.causes.request = true := by decide
theorem wit_silence : s0.ring.silenceTimer = none ∧
    ({ run0 with ring := { run0.ring with silenceTimer := some 20 } } : State).ring.silenceTimer.isSome = true := by decide
/-- The cell HELD with its REQUEST alone, serving board 0 with no order out. -/
def heldServing (st : BoardState) (v : Service → Service) : State :=
  let s := (serving .lift st none).modService v
  { s with
    lines := s0.lines
    hand := { s.hand with
      picker := { s.hand.picker with order := none, timer := none }
      elevator := { state := .idle, reason := none, order := none, timer := none } } }
theorem wit_resume : s0.ready = true ∧ s0.running = false ∧ s0.lines.causes.stop = false ∧ s0.lines.causes.silence = false := by
  decide
/-- The cell HELD with a LOCATE waiting, the vision node in a state. -/
def locateWaits (r : NodeRec) : State :=
  ({ s0 with locator := { s0.locator with active := { LocRec.free with state := .waiting } } } : State).setNode .vision r
theorem wit_resume_locate : (locateWaits { NodeRec.reset with present := true }).locator.active.state = .waiting ∧
    ((locateWaits { NodeRec.reset with present := true }).node .vision).present = true ∧
    ((locateWaits { NodeRec.reset with present := true }).node .vision).latch = none ∧
    ((locateWaits NodeRec.reset).node .vision).present = false := by decide
/-- A node in FAULT that has reported READY since. -/
def recovered : NodeRec := { NodeRec.reset with present := true, latch := some .order, fresh := true, faultReported := some false }
theorem wit_resume_recovered : ((locateWaits recovered).node .vision).fresh = true ∧
    ((locateWaits recovered).node .vision).faultReported = some false := by decide
/-- Head A, the picker and the elevator in FAULT, each node with a latch record, and head A with or without a bit. -/
def faulted (r : NodeRec) (bit : RackPos) : State :=
  let s := withRack 0 bit (withHead .a { HeadRec.reset with state := .fault, reason := some .take } s0)
  { s with
    ring := { s.ring with nodes := ⟨r, r, r, r, r⟩ }
    hand := { s.hand with
      picker := { s.hand.picker with state := .fault, reason := some .take }
      elevator := { s.hand.elevator with state := .fault, reason := some .take } } }
theorem wit_resume_owners : (faulted recovered (mounted .a 5)).ready = true ∧
    ((faulted recovered (mounted .a 5)).head .a).state = .fault ∧ (∀ n ∈ Node.all,
      ((faulted recovered (mounted .a 5)).node n).latch.isSome = true ∧ ((faulted recovered (mounted .a 5)).node n).fresh = true ∧
        ((faulted recovered (mounted .a 5)).node n).faultReported = some false) ∧
    (faulted recovered (mounted .a 5)).hand.picker.state = .fault ∧
    (faulted recovered (mounted .a 5)).hand.elevator.state = .fault := by decide
theorem wit_resume_owners_bit : (faulted recovered (mounted .a 5)).mounted .a ≠ none ∧
    (faulted recovered (mounted .a 5)).due .a = false ∧ (faulted recovered RackPos.reset).mounted .a = none ∧
    ¬ (((faulted { recovered with fresh := false } RackPos.reset).node .headA).fresh = true) := by decide
/-- A change that waits for RUN with position 7 to fetch. -/
def change7 : Change := { outgoing := none, returned := false, fetch := some 7, state := .awaitingRun, timer := none }
/-- Head B's change waiting for RUN. -/
def toolWaits : State :=
  let s := withRack 7 { spare 1 0 with engaged := some .b } (withHead .b { HeadRec.reset with state := .changing } s0)
  { s with spindle := { s.spindle with change := ⟨none, some change7⟩ } }
theorem wit_resume_tool : (toolWaits.change .b).map (fun c => (c.fetch, c.state)) = some (some 7, .awaitingRun) ∧
    toolWaits.spindle.rack[7]? = some { spare 1 0 with engaged := some .b } ∧ (toolWaits.head .b).state = .changing ∧
    (toolWaits.node .headB).latch = none ∧ Head.b ∉ toolWaits.spindle.waiting ∧ toolWaits.ready = true := by decide
theorem wit_resume_retract : let s := heldServing .attached id
    let s : State := { s with hand := { s.hand with service := none, picker := { s.hand.picker with retractDue := true } } }
    s.hand.picker.state = .serving ∧ s.hand.picker.order = none ∧ (s.node .picker).latch = none ∧
      s.hand.picker.retractDue = true ∧ s.running = false := by decide
theorem wit_resume_service : let s := heldServing .free fun v => { v with index := .waiting }
    s.hand.service.map (fun v => (v.dest, v.index, v.early, v.torn)) = some (.lane 1 0, .waiting, .none, false) ∧
      s.locator.active.state ≠ .waiting ∧ s.tracker.closing = none ∧ s.panelRef 1201 = some .active ∧
      s.hand.elevator.state = .idle ∧ (s.node .elevator).latch = none ∧ s.hand.picker.state = .serving ∧
      s.hand.picker.order = none ∧ (s.node .picker).latch = none ∧ s.hand.picker.retractDue = false ∧
      s.boardState .active 0 = some .free := by decide
theorem wit_resume_elevator_back : let s := (heldServing .gripped fun v => { v with index := .waiting }).setNode .elevator recovered
    let s : State := { s with hand := { s.hand with elevator := { s.hand.elevator with state := .fault } } }
    s.hand.elevator.state = .fault ∧ (s.node .elevator).latch.isSome = true ∧ (s.node .elevator).fresh = true ∧
      (s.node .elevator).faultReported = some false := by decide
theorem wit_resume_place :
    (heldServing (.lost .torn) fun v => { v with torn := true, dest := .bin }).hand.service.map Service.torn = some true ∧
    (heldServing .inTransit fun v => { v with dest := .bin }).boardState .active 0 = some .inTransit ∧
    (heldServing .inTransit fun v => { v with dest := .bin }).hand.service.map Service.dest = some .bin ∧
    (heldServing .inTransit fun v => { v with index := .done }).hand.service.map
      (fun v => (v.index, v.window, v.torn)) = some (.done, none, false) ∧
    ((heldServing .inTransit id).hand.lanes[1]?).map Lane.state = some .active := by decide
theorem wit_reset : cutCell.ready = true ∧ cutCell.recipes.slots.length = 8 := by decide
theorem wit_lane : s0.ready = true ∧ s0.hand.lanes.length = 4 := by decide
theorem wit_lane_range : 4 ≤ 4 ∨ 0 = 0 ∨ 80 < 81 ∨ 2 ≤ 2 ∨ (∃ i ∈ [80], 80 ≤ i) ∨ ¬ [3, 3].Nodup := by decide
/-- Lane 3 with a RESERVED slot. -/
def reservedLane : State := withLane 3 { Lane.absent with state := .active, slots := [.reserved] } s0
theorem wit_lane_busy : reservedLane.ready = true ∧
    ¬ (4 ≤ 3 ∨ 80 = 0 ∨ 80 < 80 ∨ 2 ≤ 1 ∨ (∃ i ∈ [79, 0], 80 ≤ i) ∨ ¬ [79, 0].Nodup) ∧
    (reservedLane.hand.lanes[3]?).map (fun l => l.slots.contains .reserved) = some true := by decide
theorem wit_lane_set : s0.hand.lanes[3]? = some Lane.absent ∧ SlotState.reserved ∉ Lane.absent.slots ∧
    (s0.lines.lanes[3]?).isSome = true := by decide
theorem wit_clear_not_jammed : s0.hand.lanes[0]? = some Lane.absent ∧ Lane.absent.state ≠ .jammed := by decide
/-- Lane 0 JAMMED, its sensor in a conditioned state. -/
def jammed (active : Bool) : State :=
  (withLane 0 { Lane.absent with state := .jammed, slots := [.empty] } s0).setSense (.laneSense 0) (Line.steady active)
theorem wit_clear_busy : (jammed true).ready = true ∧ ((jammed true).hand.lanes[0]?).map Lane.state = some .jammed ∧
    ((jammed true).lines.lanes[0]?).map (fun q => q.line.cond) = some true := by decide
theorem wit_clear : (jammed false).ready = true ∧ ((jammed false).hand.lanes[0]?).map Lane.state = some .jammed ∧
    ((jammed false).lines.lanes[0]?).map (fun q => q.line.cond) = some false := by decide
theorem wit_slot_choice : let s := withLane 3 { Lane.absent with state := .active, slots := [.empty, .empty], variants := 16 } s0
    s.chooseSlot 4 = some (.lane 3 0) ∧ s0.chooseSlot 4 = none := by decide
/-- A board at the front of the pick queue, and a lane for it. -/
def picking (bad : Bool) : State :=
  let s := withLane 1 { Lane.absent with state := .active, slots := [.empty], variants := 16 } (withPanel (panel .cutting false) run0)
  { s with
    tracker := { s.tracker with half0 := [{ board .ready with bad := bad }], pickQueue := [0] }
    locator := { s.locator with active := { LocRec.free with state := .mapped, angle := some 1750 } }
    hand := { s.hand with
      picker := { s.hand.picker with state := .idle }
      elevator := { s.hand.elevator with state := .idle } } }
theorem wit_selection : (picking true).hand.service = none ∧ (picking true).hand.picker.state = .idle ∧
    (picking true).running = true ∧ (picking true).tracker.active = some (panel .cutting false) ∧
    (picking true).tracker.pickQueue = 0 :: [] ∧
    ((picking true).half .h0)[0]? = some { board .ready with bad := true } ∧
    (board .ready).corrected = some ⟨172229, 155309⟩ ∧ (picking true).locator.active.angle = some 1750 :=
  ⟨rfl, rfl, by decide, rfl, rfl, rfl, rfl, rfl⟩
theorem wit_selection_lane : (picking false).running = true ∧ (picking false).elevatorInService = true ∧
    (board .ready).bad = false ∧ (picking false).chooseSlot 4 = some (.lane 1 0) := by decide
/-- Board 0 good, with no lane for its variant, ahead of board 1 in the pick queue, the elevator in a state. -/
def passing (elevator : ElevatorState) (queue : List Nat) : State :=
  let s := picking false
  { s with
    tracker := { s.tracker with
      half0 := [{ board .ready with variant := 5 }, { board .ready with bad := true }, board .ready], pickQueue := queue }
    hand := { s.hand with elevator := { s.hand.elevator with state := elevator } } }
theorem wit_selection_passed : (passing .idle [0, 1]).tracker.pickQueue = [0] ++ 1 :: [] ∧
    (passing .idle [0, 1]).tracker.active = some (panel .cutting false) ∧ (passing .idle [0, 1]).running = true ∧
    ((passing .idle [0, 1]).half .h0)[0]? = some { board .ready with variant := 5 } ∧
    ((passing .idle [0, 1]).half .h0)[1]? = some { board .ready with bad := true } ∧
    (passing .idle [0, 1]).chooseSlot 5 = none ∧ (passing .idle [0, 1]).hand.elevator.state = .idle :=
  ⟨rfl, rfl, by decide, rfl, rfl, by decide, rfl⟩
theorem wit_selection_passed_lane : (passing .idle [0, 2]).tracker.pickQueue = [0] ++ 2 :: [] ∧
    ((passing .idle [0, 2]).half .h0)[2]? = some (board .ready) ∧ (passing .idle [0, 2]).chooseSlot 4 = some (.lane 1 0) :=
  ⟨rfl, rfl, by decide⟩
theorem wit_selection_all_passed : (passing .idle [0]).tracker.pickQueue = [0] ∧ (passing .fault [0, 2]).tracker.pickQueue = [0, 2] ∧
    ¬ ((passing .fault [0, 2]).hand.elevator.state = .idle ∨ (passing .fault [0, 2]).hand.elevator.state = .indexing) ∧
    (passing .fault [0, 2]).running = true := by decide
theorem wit_rack_range : s0.ready = true ∧ s0.spindle.rack.length = 8 ∧ (8 ≤ 8 ∨ 2 ≤ 2 ∨ 4 ≤ 4) := by decide
theorem wit_rack_busy : (withRack 7 (mounted .b 5) s0).rackAt 7 = some (mounted .b 5) ∧ (mounted .b 5).mode = .mounted ∧
    ({ spare 3 0 with engaged := some .a }).engaged.isSome = true := ⟨rfl, rfl, rfl⟩
theorem wit_rack_writes : s0.spindle.rack[7]? = some RackPos.reset ∧ RackPos.reset.mode ≠ .mounted ∧
    RackPos.reset.engaged = none ∧ s0.param .bitLife ≤ min 1048575 60000 ∧ min 1048575 59999 < s0.param .bitLife := by decide
/-- Head A in a state, with a spare in the rack. -/
def headIn (st : HeadState) : State := withRack 4 (spare 2 59999) (withHead .a { HeadRec.reset with state := st } s0)
theorem wit_tool_refused : 2 ≤ 2 ∧ (headIn .offline).ready = true ∧ ((headIn .fault).head .a).state = .fault := by decide
theorem wit_tool_due : ((headIn .cutting).head .a).state = .cutting ∧ ((headIn .stopping).head .a).state = .stopping ∧
    ((headIn .parking).head .a).state = .parking := by decide
theorem wit_tool_under_way : ((headIn .changing).head .a).state = .changing ∧ ((headIn .noTool).head .a).state = .noTool := by
  decide
/-- A change with no outgoing bit. -/
def change0 : Change := { outgoing := none, returned := false, fetch := none, state := .awaitingRun, timer := none }
theorem wit_tool_chosen : ((headIn .idle).head .a).state = .idle ∧ (headIn .idle).mounted .a = none ∧
    (headIn .idle).chooseBit .a change0 = some 4 ∧ (headIn .idle).running = false := by decide
theorem wit_tool_chosen_run : ({ headIn .idle with lines := run0.lines } : State).running = true ∧
    ({ headIn .idle with lines := run0.lines } : State).chooseBit .a change0 = some 4 := by decide
theorem wit_tool_none : let s := withHead .a { HeadRec.reset with state := .idle } s0
    s.ready = true ∧ s.chooseBit .a change0 = none ∧ Head.a ∉ s.spindle.waiting := by decide
theorem wit_tool_chosen_bit : (headIn .idle).rackAt 4 = some (spare 2 59999) := rfl
theorem wit_bit_choice : (headIn .idle).chooseBit .a change0 = some 4 ∧ s0.chooseBit .a change0 = none := by decide

/-! Parameters, tables, notices and identity. -/

theorem wit_param_refused : s0.ready = true ∧ 42 ≤ 42 ∧ paramTable[0]? = some ⟨.splitX, 150000, 570000, 360000, true⟩ ∧
    (withPanel (panel .done false) s0).tracker.active.isSome = true ∧ paramTable[4]? = some ⟨.leadHead, 0, 1, 0, true⟩ ∧
    1 < 2 := by decide
theorem wit_param_stored : paramTable[16]? = some ⟨.loadLow, 0, 4094, 300, false⟩ ∧
    paramTable[35]? = some ⟨.rejectCapacity, 1, 250, 100, false⟩ ∧ s0.tracker.active = none ∧ s0.tracker.closing = none := by decide
theorem wit_param_bit_life : paramTable[13]? = some ⟨.bitLife, 1000, 500000, 60000, false⟩ ∧
    max 1000 (min 500000 60000) ≤ s0.param .bitLife := by decide
theorem wit_param_get : s0.ready = true ∧ s0.req.params.length = 42 ∧ 42 ≤ 42 ∧ s0.req.params[41]? = some 1 := by decide
theorem wit_table_refused : s0.ready = true ∧ s0.recipes.slots.length = 8 ∧ 255 < 256 ∧ (9 ≤ 9 ∨ 512 < 513) ∧ 8 ≤ 8 ∧ 2 ≤ 2 ∧
    s0.tracker.active = none ∧ s0.tracker.closing = none := by decide
theorem wit_table_read : (match tableOf 8 0 s0.windowLeft s0 with
    | .inr l => l.length
    | .inl _ => 0) = 9 := by decide
theorem wit_table_each : (∀ t < 9, (match tableOf t 0 twoPanels.windowLeft twoPanels with
    | .inr _ => true
    | .inl _ => false) = true) ∧ (∀ t < 3, (match tableOf t 1 twoPanels.windowLeft twoPanels with
    | .inr _ => true
    | .inl _ => false) = true) ∧ 512 ≤ 512 ∧ 255 < 256 := by decide +kernel
theorem wit_table_window : (serving .place .inTransit (some (.closing 400))).hand.service.bind Service.window =
    some (.closing 400) := by decide
theorem wit_notice_levels : s0.ready = true ∧ s0.notices.recs.length = 20 ∧ 4 < 5 ∧ 4 ≤ 4 ∧ (19 < 20 ∨ 3 < 4) ∧ 19 ≤ 19 ∧
    3 ≤ 3 ∧ s0.notices.recs[19]? = some (NoticeRec.reset 0) := by decide
theorem wit_notice_candidate : (s0.notices.recs[18]?).map NoticeRec.pending = some true ∧
    (s0.notices.recs[18]?).map NoticeRec.level = some 0 := by decide
theorem wit_identify : s0.ready = true ∧
    ({ s0 with lines := { s0.lines with strap := 63 } } : State).lines.strap = 63 ∧
    ({ s0 with lines := { s0.lines with strap := 0 } } : State).lines.strap = 0 := by decide
theorem wit_notice_choice : chooseNotice s0.notices = s0.notices.recs[18]?.map (fun r => (18, r)) ∧
    chooseNotice NoticeUnit.reset = none := by decide
theorem wit_item_fits : (Item.tab .shared .v (-2147483648) 2147483647 65535 255 255).fits = true := by decide
theorem wit_read_requests : [(0 : Byte)].length < 2 ∧ [(7 : Byte)].length < (2 : Byte).toNat ∧ (0 : Byte).toNat ≤ [(7 : Byte)].length ∧
    [Item.cls, .exitAfter 5].length = (2 : Byte).toNat ∧ (∀ i ∈ [Item.cls, .exitAfter 5], i.fits = true) ∧
    [Item.cls].length < (2 : Byte).toNat ∧ [(6 : Byte)] <+: encodeItem (.exitAfter 5) ∧ [(6 : Byte)] ≠ encodeItem (.exitAfter 5) ∧
    6 < (7 : Byte).toNat ∧ 3 < (4 : Byte).toNat ∧ 12 ≤ (List.replicate 12 (0 : Byte)).length := by decide
theorem wit_read_status : (List.replicate 13 (0 : Byte)).length < 14 ∧ 14 ≤ (List.replicate 14 (0 : Byte)).length ∧
    31 ≤ (List.replicate 31 (0 : Byte)).length := by decide

/-! The ring. -/

/-- Both ports UP. -/
def upBoth : State := upP.setPort .n { state := .up, rate := some .r25, timer := none, sync := 3, errRun := 0 }
theorem wit_forward_not_up : s0.ring.portP.state ≠ .up := by decide
theorem wit_forward_passive : ({ upP with lines := { upP.lines with strap := 63 } } : State).lines.strap = 63 ∧
    upP.ring.portP.state = .up ∧ readFrame [0, 1, 0, 0, 0, 0] = none := by decide +kernel
theorem wit_forward_n : upBoth.ring.portN.state = .up ∧ upBoth.ring.portP.state = .up ∧ upP.ring.portN.state ≠ .up := by decide
theorem wit_good_frame : upP.ring.portP.state = .up ∧ upP.passive = false ∧ upP.lines.strap < 64 ∧
    (∀ r ∈ upP.req.replies, r.dest < 64 ∧ r.data.length ≤ 237) ∧ readFrame emptyFrame = some [] := by decide +kernel
/-- A part with a reply as long as any. -/
def longReply : State := { upP with req := { upP.req with replies := [⟨63, 255, 19, .ok, List.replicate 237 0⟩] } }
theorem wit_good_frame_replies : longReply.ring.portP.state = .up ∧ longReply.passive = false ∧
    (∀ r ∈ longReply.req.replies, r.dest < 64 ∧ r.data.length ≤ 237) ∧ (∀ n ∈ Node.all, longReply.address n < 64) := by
  decide +kernel
theorem wit_good_frame_request : readFrame holdFrame = some [⟨10, 1, 8, [7]⟩] ∧ upP.lines.strap = 10 ∧
    (1 ≤ 8 ∧ 8 ≤ 22 ∧ 1 ≤ 63 ∧ 1 ≠ upP.lines.strap ∧ 10 = upP.lines.strap) ∧ [(7 : Byte)] ≠ [] := by decide +kernel
theorem wit_frame_alone : (frameEvents [] upP).ev.left.a = false := by decide +kernel
/-- What is passed over: an address above 63, the part's own, a kind unknown, a request to another, a second status record. -/
theorem wit_record_passed : 63 < 64 ∧ upP.lines.strap = 10 ∧ 23 ≠ 64 ∧ 22 < 23 ∧ 8 ≠ 64 ∧ 11 ≠ upP.lines.strap ∧ 11 ≠ 63 ∧ 2 ∈ [2] := by
  decide
theorem wit_record_taken : ¬ (63 < 63 ∨ 63 < 2 ∨ 2 = s0.lines.strap) ∧ 2 ∉ [3] ∧ s0.address .headA = 2 := by decide
theorem wit_contact_counted : (∀ n ∈ Node.all, (s0.node n).present = false) ∧ recovered.present = true ∧
    recovered.latch.isSome = true ∧ ({ NodeRec.reset with contact := 6 }).contact < 7 ∧
    7 ≤ ({ NodeRec.reset with present := true, contact := 7 }).contact ∧ NodeRec.reset.latch = none := by decide
theorem wit_taken_before : ({ NodeRec.reset with seq := 1, taken := true }).taken = true ∧ 0 ≠ (NodeRec.reset.write .stop 20).seq := by
  decide
theorem wit_taken : (writeOrder .headA .stop s0).node .headA = NodeRec.reset.write .stop 20 ∧
    (NodeRec.reset.write .stop 20).taken = false ∧ 1 = (NodeRec.reset.write .stop 20).seq := by decide
/-- Every owner with its order written and not taken: head A cutting, head B stopping, the picker, the elevator and vision. -/
def ordered : State :=
  let n (o : Order) : NodeRec := { NodeRec.reset with present := true, order := o, seq := 255 }
  let s := serving .place .inTransit none
  { withHead .a cuttingHead (withHead .b { HeadRec.reset with state := .stopping, timer := some 9 } s) with
    ring := { s.ring with nodes :=
      ⟨n (.cut 1201 0 ⟨0, 0⟩ ⟨0, 0⟩ 1 0 0), n .stop, n (.place 1201 0 .bin), n (.index 1 0), n (.locate 1201 ⟨0, 0⟩ ⟨0, 0⟩ none)⟩ }
    locator := { s.locator with active := { LocRec.free with state := .measuring } }
    hand := { s.hand with
      picker := { s.hand.picker with order := some (.place, 255) }
      elevator := { s.hand.elevator with order := some ⟨1, 0, 255⟩ } } }
theorem wit_taken_owners : (∀ n ∈ Node.all, (ordered.node n).taken = false ∧ 255 = (ordered.node n).seq) ∧
    (ordered.head .a).state = .cutting ∧ (ordered.node .headA).order.kind = Order.kind (.cut 0 0 ⟨0, 0⟩ ⟨0, 0⟩ 0 0 0) ∧
    (ordered.head .b).state = .stopping ∧ (ordered.node .headB).order = .stop ∧ (ordered.head .b).timer = some 9 ∧
    ordered.hand.picker.order = some (.place, 255) ∧ ordered.hand.elevator.order = some ⟨1, 0, 255⟩ ∧
    ordered.locator.active.state = .measuring := by decide
theorem wit_taken_picker (k : PickerOrder) :
    ({ ordered with hand := { ordered.hand with picker := { ordered.hand.picker with order := some (k, 255) } } } :
      State).hand.picker.order = some (k, 255) := rfl
theorem wit_taken_stop_first : let s := withHead .b { HeadRec.reset with state := .stopping } ordered
    (s.head .b).state = .stopping ∧ (s.head .b).timer = none := by decide
theorem wit_taken_park :
    let s := withHead .b { HeadRec.reset with state := .parking } s0
    let s := s.setNode .headB { NodeRec.reset with order := .park 720000 }
    (s.head .b).state = .parking ∧ (s.node .headB).order.kind = Order.kind (.park 0) ∧ (s.node .headB).taken = false := by decide
theorem wit_taken_tool : let s := { toolWaits with spindle := { toolWaits.spindle with
      change := ⟨none, some { change7 with state := .out }⟩ } }
    let s := s.setNode .headB { NodeRec.reset with order := .tool 7 1 none }
    (s.head .b).state = .changing ∧ (s.change .b).map Change.state = some .out ∧ (s.node .headB).order = .tool 7 1 none := by decide
/-- A status record's fields: done 0, READY or FAULT. -/
def status (faulty : Bool) : Status :=
  { faulty := faulty, taken := 0, done := 0, code := 0, data := 0, x := 0, remaining := 0, load := 0, missing := 0, m0 := ⟨0, 0⟩,
    m1 := ⟨0, 0⟩, m2 := ⟨0, 0⟩ }
theorem wit_completed : (s0.node .headA).completed = false ∧ (status true).done = (s0.node .headA).seq ∧
    ({ NodeRec.reset with completed := true }).completed = true ∧ (status true).done ≠ (ordered.node .headA).seq := by decide
theorem wit_status_latched : ((s0.setNode .vision recovered).node .vision).latch = some .order ∧
    ((s0.setNode .vision recovered).node .vision).present = true := by decide
theorem wit_status_first : (∀ n ∈ Node.all, (s0.node n).present = false ∧ (s0.node n).order = .none ∧
      (status false).done ≠ nextSeq (s0.node n).seq) ∧ (status true).faulty = true ∧
    (s0.head .a).state = .offline ∧ s0.hand.picker.order = none ∧ s0.hand.elevator.order = none ∧
    Head.a ∉ s0.spindle.waiting ∧ s0.mounted .a = none := by decide +kernel
theorem wit_status_first_mounted : (withRack 0 (mounted .a 0) s0).mounted .a = some 0 ∧
    (withRack 0 (mounted .a 0) s0).due .a = false := by decide
theorem wit_status_in_frame : let r : Rec := ⟨63, s0.address .picker, 64, List.replicate 6 0⟩
    r.kind = 64 ∧ r.dest ≤ 63 ∧ r.src ≤ 63 ∧ r.src ≠ s0.lines.strap ∧ readStatus .picker r.body = some (status false) ∧
      (∀ m ∈ Node.all, s0.address m = r.src ↔ m = .picker) := by decide +kernel
theorem wit_leave_up : (upP.port .p).state = .up ∧ (upP.port .p).errRun = 15 ∧ (s0.port .p).state ≠ .up := by decide
/-- Port N training, with a sync count and a rate. -/
def trainingN (sync : Nat) (rate : Rate) : State := s0.setPort .n { PortRec.training with sync := sync, rate := some rate }
theorem wit_trains : ((trainingN 2 .r100).port .n).state = .training ∧ ((trainingN 2 .r100).port .n).sync = 2 ∧
    ((trainingN 1 .r50).port .n).sync < 2 ∧ ((trainingN 0 .r25).port .n).rate = some .r25 ∧
    ((trainingN 0 .r25).port .n).timer.isSome = true := by decide
theorem wit_trains_up : (upBoth.port .n).state = .up ∧ (upBoth.port .n).errRun < 15 ∧ (upBoth.port .n).timer = none := by decide
theorem wit_trains_failed : let r : PortRec := { state := .failed, rate := none, timer := some 250, sync := 0, errRun := 0 }
    ((s0.setPort .p r).port .p).timer.isSome = true ∧ ((s0.setPort .p r).port .p).state = .failed := by decide

/-! Lines, reset and timers. -/

theorem wit_raw : s0.lines.inReset = false ∧ s0.lines.lanes.length = 4 ∧ (s0.sense (.laneSense 3)).raw = false ∧
    (s0.sense .clampSense).raw ≠ true := by decide
theorem wit_stop_changes : (withStop (Line.steady false)).lines.stopIn.raw = false ∧
    (withStop (Line.steady false)).lines.stopIn.cond = false ∧ (withStop ⟨false, true, some 6⟩).lines.stopIn.cond = true ∧
    (withStop (Line.steady true)).lines.stopIn.raw = true ∧ (withStop ⟨true, false, none⟩).lines.stopIn.cond = false := by decide
theorem wit_stop_passive : let s := withStop (Line.steady false)
    s.passive = false ∧ ({ s with lines := { s.lines with strap := 63 } } : State).passive = true ∧
      ({ s with lines := { s.lines with strap := 63 } } : State).lines.inReset = false := by decide
theorem wit_steady_none : s0.lines.stopIn.timer = none ∧ (s0.sense (.laneSense 0)).timer = none := by decide
theorem wit_steady_stop : (withStop ⟨false, true, some 6⟩).lines.stopIn.timer.isSome = true := by decide
/-- A debounced line with its steady timer running. -/
def timing (l : SenseLine) (raw : Bool) (s : State) : State := s.setSense l ⟨raw, !raw, some 6⟩
theorem wit_steady_extract : (timing .extractOk false s0).lines.extract.timer.isSome = true ∧
    (timing .extractOk false s0).lines.extract.raw = false ∧ (timing .extractOk true s0).lines.extract.raw = true := by decide
theorem wit_steady_clamp : (timing .clampSense true s0).lines.clamp.timer.isSome = true ∧
    (timing .clampSense true s0).lines.clamp.raw = true ∧ (timing .clampSense false cutCell).lines.clamp.raw = false ∧
    (timing .clampSense false cutCell).tracker.active.map Panel.state = some .cutting := by decide
theorem wit_steady_lane : ((timing (.laneSense 3) true s0).lines.lanes[3]?).map (fun r => (r.line.timer.isSome, r.line.raw)) =
    some (true, true) ∧ s0.hand.service = none ∧
    ((timing (.laneSense 3) false s0).lines.lanes[3]?).map (fun r => r.line.raw) = some false := by decide
theorem wit_steady_stray_serving : let s := timing (.laneSense 3) true (serving .place .inTransit (some .opened))
    (s.lines.lanes[3]?).map (fun r => (r.line.timer.isSome, r.line.raw)) = some (true, true) ∧
      s.hand.service.map (fun v => (v.dest, v.window)) = some (.lane 1 0, some .opened) ∧
      (serving .lift .free none).hand.service.map (fun v => (v.dest, v.window)) = some (.lane 1 0, none) := by decide
/-- Lane 3 in a state with its sensor's stuck timer running. -/
def sticking (st : LaneState) : State :=
  (withLane 3 { Lane.absent with state := st } s0).modLaneLine 3 fun q => { q with stuckTimer := some 1500 }
theorem wit_stuck : ((sticking .active).lines.lanes[3]?).map (fun r => r.stuckTimer.isSome) = some true ∧
    ((sticking .full).hand.lanes[3]?).map Lane.state = some .full ∧
    ((sticking .absent).hand.lanes[3]?).map Lane.state = some .absent ∧
    ((sticking .jammed).hand.lanes[3]?).map Lane.state = some .jammed ∧
    (s0.lines.lanes[3]?).map LaneLine.stuckTimer = some none := by decide
/-- A part whose RESET_IN is asserted. -/
def inReset : State := after .resetInAsserted cutCell
theorem wit_in_reset : exec .resetInAsserted inReset = .next inReset := rfl
theorem wit_released : (after .resetInAsserted s0).lines.inReset = true ∧ s0.lines.inReset = false ∧
    requestOf (.cellHold 1 2) = some ⟨1, 2, .cellHold⟩ := by decide
/-- Every node present and in service, with an order not yet taken. -/
def present : State :=
  let r : NodeRec := { NodeRec.reset with present := true, seq := 1, takeTimer := some 20 }
  { cutCell with
    ring := { cutCell.ring with nodes := ⟨r, r, r, r, r⟩ }
    disp := { cutCell.disp with heads := ⟨cuttingHead, { HeadRec.reset with state := .idle }⟩ }
    hand := { cutCell.hand with
      picker := { cutCell.hand.picker with state := .idle }
      elevator := { cutCell.hand.elevator with state := .idle } }
    locator := { cutCell.locator with active := { LocRec.free with state := .measuring } } }
theorem wit_node_fault : (∀ n ∈ Node.all, (present.node n).takeTimer.isSome = true ∧ (present.node n).latch = none ∧
    (present.node n).present = true) ∧ (present.head .a).state = .cutting ∧ (present.head .b).state = .idle ∧
    present.hand.picker.state = .idle ∧ present.hand.elevator.state = .idle ∧ present.locator.active.state = .measuring := by decide
theorem wit_status_faults : (∀ n ∈ Node.all, (present.node n).present = true ∧ (present.node n).latch = none ∧
      ¬ ((status true).done = (present.node n).seq ∧ (present.node n).completed = false) ∧
      (status true).done ≠ nextSeq (present.node n).seq) ∧ (status true).faulty = true ∧
    (present.head .a).state ≠ .offline ∧ (present.head .a).state ≠ .fault ∧ (present.head .b).state ≠ .offline ∧
    (present.head .b).state ≠ .fault ∧ present.hand.picker.state ≠ .offline ∧ present.hand.picker.state ≠ .fault ∧
    present.hand.elevator.state ≠ .offline ∧ present.hand.elevator.state ≠ .fault ∧
    present.locator.active.state = .measuring := by decide
/-- A record of the picker with FAULT: the latch is clear, and the owner in service, when it reaches the sixth step. -/
theorem wit_status_sixth_step :
    let heard := present.setNode .picker (present.node .picker).heard
    let u := testCompleted .picker (status true) (nodeData .picker (status true) (testTaken .picker 0 heard))
    (u.node .picker).latch = none ∧ u.hand.picker.state ≠ .offline ∧ u.hand.picker.state ≠ .fault := by decide +kernel
theorem wit_node_no_fault : (s0.node .vision).takeTimer = none ∧ (s0.node .vision).present = false := by decide
theorem wit_head_timer : (s0.head .a).timer = none ∧ (cutCell.head .a).timer.isSome = true ∧
    (cutCell.head .a).state = .cutting ∧ (cutCell.head .a).tab = some 0 ∧ (cutCell.tab 0).isSome = true := by decide
theorem wit_head_timer_parking :
    let s := withHead .b { HeadRec.reset with state := .parking, timer := some 10000 } s0
    (s.head .b).timer.isSome = true ∧ (s.head .b).state = .parking := by decide
theorem wit_head_timer_stopping :
    let s := withHead .b { HeadRec.reset with state := .stopping, timer := some 10000, cause := some .hold } s0
    (s.head .b).timer.isSome = true ∧ (s.head .b).state = .stopping := by decide
/-- Section 4.11: head A cuts tab 9 with [3, 5, 8] in its queue, head B cuts tab 14, the mode is PAIRED. -/
def section411 : State :=
  let at_ (x : Int) : Tab :=
    { tab 0 0 .queued with release := false, corStart := some ⟨x, 0⟩, corEnd := some ⟨x + 2400, 0⟩, place := some .queueA }
  let s := withHead .b { cuttingHead with tab := some 14 } (withHead .a { cuttingHead with tab := some 9, queue := [3, 5, 8] }
    (withRack 1 (mounted .b 0) (withRack 0 (mounted .a 0) cutCell)))
  { s with disp := { s.disp with
      paired := true
      tabs := (List.range 15).map fun i =>
        if i = 3 then at_ 240000 else if i = 5 then at_ 120000 else if i = 8 then at_ 300000
        else if i = 9 then { at_ 180000 with state := .ordered, place := none, cutHead := some .a }
        else if i = 14 then { at_ 420000 with state := .ordered, place := none, cutHead := some .b } else { at_ 0 with state := .done } } }
/-- Section 4.11: the lists, the attempts of tab 9 and the mode after head A's status reported FAULT. -/
theorem test_section_4_11 : let t := headFault .a .status section411
    ((t.head .a).queue, (t.head .b).queue, t.disp.unassigned) = ([], [8], [9, 3, 5]) ∧
      ((t.tab 9).map Tab.attempts, t.disp.paired, (t.notice 12).map NoticeRec.pending) = (some 1, false, some false) := by
  decide +kernel
theorem wit_cut_faulted : (section411.head .a).state = .cutting ∧ (section411.head .a).tab = some 9 ∧ 9 ∉ (section411.head .a).queue ∧
    (section411.tab 9).map (fun x => (x.standing, x.release, x.attempts)) = some (false, false, 0) ∧
    0 + 1 < section411.param .maxAttempts ∧ section411.param .maxAttempts ≤ 2 + 1 ∧ section411.ev.bothLeave = false ∧
    section411.ev.settled.get .a = none ∧ (∀ j ∈ (section411.head .a).queue, (section411.tab j).isSome = true) ∧
    FaultReason.status ∈ [FaultReason.status, .contact, .take, .cutFault, .cutTimeout] := by decide +kernel
/-- Both heads IDLE, head A with a bit of one class and head B with a bit of another or the same, in a mode. -/
def pairing (clsB : Nat) (paired : Bool) : State :=
  let idle : HeadRec := { HeadRec.reset with state := .idle }
  let s := withHead .a idle (withHead .b idle (withRack 1 { mounted .b 0 with cls := clsB } (withRack 0 (mounted .a 0) s0)))
  { s with disp := { s.disp with paired := paired } }
theorem wit_pairing : (pairing 1 true).pairingFails = none ∧ (pairing 2 true).pairingFails = some 2 ∧
    ((pairing 1 true).setParam 6 3).pairingFails = some 3 ∧
    ((pairing 1 true).setParam 2 370000).pairingFails = some 4 ∧
    (setHeadState .b .noTool (pairing 1 true)).pairingFails = some 1 := by decide +kernel
/-- A tab from one x to another. -/
def tabAt (x1 x2 : Int) : Tab := { tab 0 0 .queued with corStart := some ⟨x1, 0⟩, corEnd := some ⟨x2, 0⟩ }
theorem wit_assign : (pairing 1 true).disp.paired = true ∧ (pairing 1 true).ev.bothLeave = false ∧
    (tabAt 100 200).start.x + (tabAt 100 200).stop.x < 2 * s0.param .splitX ∧ (100 : Int) ≤ s0.param .reachAMax ∧
    ¬ ((480000 : Int) ≤ s0.param .reachAMax) ∧ (100 : Int) + 480000 < 2 * s0.param .splitX ∧
    ¬ ((480000 : Int) + 250000 < 2 * s0.param .splitX) ∧ (s0.param .reachBMin : Int) ≤ 250000 ∧
    ¬ ((s0.param .reachBMin : Int) ≤ 249999) ∧ (pairing 1 false).lead = .a ∧
    ((pairing 1 false).head .a).state ∉ [HeadState.offline, .noTool, .fault] := by decide
theorem wit_grant : (cutCell.tab 0).isSome = true ∧ (tab 0 0 .held).state = .held ∧ (tab 0 0 .held).settlement = none ∧
    (tab 0 0 .queued).state ≠ .held := by decide
/-- Head A just out of service, with two tabs in its queue, a tab in the unassigned list, and head B in a state. -/
def leaving (b : HeadState) : State :=
  let s := withHead .b { HeadRec.reset with state := b, queue := [3] } (withHead .a { HeadRec.reset with state := .fault, queue := [0, 1] } s0)
  { s with disp := { s.disp with
      tabs := [tabAt 100 200, { tabAt 480000 490000 with release := false }, tabAt 480000 480000, tabAt 100 100], unassigned := [2] } }
theorem wit_leaves : (leaving .idle).ev.bothLeave = false ∧ (leaving .idle).ev.settled.get .a = none ∧
    ((leaving .idle).head .a).state ∈ [HeadState.offline, .noTool, .fault] ∧
    ((leaving .idle).head .b).state ∉ [HeadState.offline, .noTool, .fault] ∧
    (∀ i ∈ ((leaving .idle).head .a).queue, ((leaving .idle).tab i).isSome = true) ∧
    (leaving .idle).reaches .b (tabAt 480000 490000) = true ∧ (leaving .idle).reaches .b (tabAt 100 200) = false := by decide
theorem wit_enters : 2 ∈ (leaving .idle).disp.unassigned ∧ (leaving .idle).reaches .b (tabAt 480000 480000) = true := by decide
theorem wit_both_out : ((leaving .noTool).head .b).state ∈ [HeadState.offline, .noTool, .fault] ∧
    (∀ i ∈ ((leaving .noTool).head .a).queue ++ ((leaving .noTool).head .b).queue, ((leaving .noTool).tab i).isSome = true) := by
  decide
/-- A frame in which both heads report FAULT. -/
def bothFault : List Rec := [⟨63, 2, 64, 1 :: List.replicate 13 0⟩, ⟨63, 3, 64, 1 :: List.replicate 13 0⟩]
theorem wit_both_leave : (frameEvents bothFault present).ev.left.a = true ∧ (frameEvents bothFault present).ev.left.b = true ∧
    (frameEvents bothFault present).inService .a = false ∧ (frameEvents bothFault present).inService .b = false := by decide +kernel
theorem wit_tool_timeout : (changing.change .a).map (fun c => (c.timer.isSome, c.returned, c.outgoing, c.fetch)) =
    some (true, false, some 1, some 2) ∧ (changing.change .a).map Change.state ≠ some .awaitingRun ∧
    (changing.head .a).state = .changing ∧ changing.rackAt 1 = some (mounted .a 8519) ∧ s0.change .a = none := by decide
/-- A panel being located. -/
def locating (p : Panel) : State :=
  let s := withPanel p run0
  { s with locator := { s.locator with active := { LocRec.free with state := .measuring, timer := some 3000 } } }
theorem wit_locate_timeout : s0.locator.active.state ≠ .measuring ∧
    (locating (panel .locating true)).locator.active.state = .measuring ∧
    (locating (panel .locating true)).locator.active.timer.isSome = true ∧ (panel .locating true).expanding = true ∧
    (panel .locating false).expanding = false := by decide
theorem wit_pick_timer : (serving .pick .gripWait none).hand.picker.order = some (.pick, 7) ∧
    (serving .pick .gripWait none).hand.picker.timer.isSome = true ∧ s0.hand.picker.timer = none := by decide
theorem wit_picker_timer : (serving .lift .free none).hand.picker.order = some (.lift, 7) ∧ PickerOrder.lift ≠ .pick ∧
    (serving .lift .free none).hand.picker.timer.isSome = true ∧ (serving .lift .free none).hand.picker.state = .serving := by decide
/-- The picker serving board 0, bad or not, whose release tab is in a state, its panel with or without an abort mark. -/
def granted (st : BoardState) (x : TabState) (abort : Option AbortMark) (v : Service → Service) : State :=
  let s := (serving .lift st none).modService v
  { withPanel { panel .cutting false with abort := abort } s with
    disp := { s.disp with
      tabs := [tab 0 1 .done, tab 1 0 x]
      heads := ⟨if x = .ordered then { cuttingHead with tab := some 1 } else { HeadRec.reset with state := .changing, queue := if x = .queued then [1] else [] },
                HeadRec.reset⟩ } }
theorem wit_served : (granted .gripped .queued none id).hand.service.map (fun v => (v.panel, v.board, v.dest, v.torn, v.window)) =
      some (1201, 0, .lane 1 0, false, none) ∧
    (granted .gripped .queued none id).slot 1 0 = some .reserved ∧
    (granted .gripped .queued none id).tracker.active.map (fun p => (p.id, p.abort)) = some (1201, none) ∧
    (granted .gripped .queued none id).tracker.closing = none ∧
    (granted .gripped .queued (some .aborted) id).tracker.active.map Panel.abort = some (some .aborted) ∧
    ((granted .free .done none fun v => { v with window := some .opened }).hand.service.map fun v => v.window.isSome) = some true ∧
    ((granted (.lost .torn) .skipped none fun v => { v with torn := true, dest := .bin }).hand.service.map Service.torn) = some true := by
  decide
theorem wit_served_board : (∀ st ∈ [BoardState.gripWait, .gripped, .releasing, .free, .inTransit],
    ((granted st .held none id).half .h0)[0]? = some (board st)) ∧ (board .free).releaseTab = 1 := by decide
theorem wit_served_tab : (∀ x ∈ [TabState.queued, .held, .ordered],
      ((granted .releasing x none id).tab 1).map (fun t => (t.state, t.kind, t.owner)) = some (x, .frame, 0)) ∧
    ((granted .gripped .held none id).head .a).queue = [] ∧ (granted .gripped .held none id).disp.unassigned = [] ∧
    ((granted .releasing .ordered none id).head .a).tab = some 1 ∧
    ((granted .releasing .ordered none id).head .a).state = .cutting := by decide
/-- R66, R83: the board of a granted tab is READY at the front, the tab HELD with no place, the slot EMPTY. -/
theorem test_picker_fault_gripped : let t := pickerFault .timeout (granted .gripped .queued none id)
    (t.boardState .active 0, t.tracker.pickQueue, (t.tab 1).map fun x => (x.state, x.place)) =
        (some .ready, [0], some (.held, none)) ∧ (t.head .a).queue = [] ∧ t.slot 1 0 = some .empty := by decide +kernel
/-- R66, R91: a RELEASING board waits for its cut, which is stopped with cause HOLD. -/
theorem test_picker_fault_releasing : let t := pickerFault .timeout (granted .releasing .ordered none id)
    (t.boardState .active 0, t.tracker.pickQueue, (t.head .a).state, (t.head .a).cause) =
      (some .ready, [], .stopping, some .hold) := by decide +kernel
/-- A board of the CLOSING panel in FREE or IN_TRANSIT, served, with no active panel. -/
def servedClosing (st : BoardState) : State :=
  let s := serving .place st none
  { s with tracker := { s.tracker with active := none, closing := some { panel .cutting false with state := .closing } } }
theorem wit_served_closing : (servedClosing .free).tracker.closing.map Panel.id = some 1201 ∧
    (servedClosing .free).tracker.active = none ∧ ((servedClosing .inTransit).half .h0)[0]? = some (board .inTransit) := by decide
theorem wit_index_timer : (serving .lift .free none).hand.elevator.timer.isSome = true ∧
    (serving .lift .free none).hand.elevator.state = .indexing ∧
    (serving .lift .free none).hand.service.map Service.index = some .out ∧ s0.hand.elevator.timer = none := by decide
theorem wit_placement : let s := serving .place .inTransit (some (.closing 400))
    s0.hand.service = none ∧ (serving .place .inTransit (some .opened)).hand.service.bind Service.window = some .opened ∧
    s.hand.service.map Service.dest = some (.lane 1 0) ∧ (s.hand.lanes[1]?).bind (fun l => l.slots[0]?) = some .reserved ∧
    s.panelRef 1201 = some .active ∧ s.boardState .active 0 = some .inTransit ∧
    s.hand.service.bind Service.window = some (.closing 400) := by decide
theorem wit_placement_sensed :
    let s := timing (.laneSense 1) true (serving .place .inTransit (some .opened))
    (s.lines.lanes[1]?).map (fun r => (r.line.timer.isSome, r.line.raw)) = some (true, true) ∧
      (s.hand.service.bind Service.window).isSome = true := by decide
/-- Board 0 of the closing panel 1,200 being placed, its board 1 in a state. -/
def placingClosed (st : BoardState) : State :=
  let s := (serving .place .inTransit (some (.closing 400))).modService fun v => { v with panel := 1200 }
  { s with tracker := { s.tracker with
      closing := some { panel .closing false with id := 1200, half := .h1 }
      half1 := [board .inTransit, { board st with index := 1 }] } }
theorem wit_placement_active : PanelRef.active = .active ∧
    (serving .place .inTransit (some .opened)).tracker.active = some (panel .cutting false) ∧
    (serving .place .inTransit (some .opened)).tracker.closing = none ∧
    0 ∉ (serving .place .inTransit (some .opened)).tracker.pickQueue := ⟨rfl, rfl, rfl, by decide⟩
theorem wit_placement_closing : (placingClosed .stacked).panelRef 1200 = some .closing ∧
    (placingClosed .stacked).boardState .closing 0 = some .inTransit ∧
    ((placingClosed .stacked).tracker.closing.map Panel.half) = some .h1 ∧ (panel .cutting false).half = .h0 ∧
    (placingClosed .stacked).boardState .closing 1 = some .stacked ∧
    (placingClosed .inTransit).boardState .closing 1 = some .inTransit ∧ (placingClosed .stacked).board .closing 2 = none := by decide
/-- The picker's outstanding order complete, for board 0 in a state and a service. -/
def completing (k : PickerOrder) (st : BoardState) (v : Service → Service) : State :=
  let s := ((serving k st none).setNode .picker { NodeRec.reset with present := true, seq := 7 }).modService v
  { s with
    tracker := { s.tracker with half0 := [{ board st with releaseTab := 0 }] }
    disp := { s.disp with tabs := [{ tab 0 0 .held with settlement := some ⟨.a, true, .hold⟩ }] }
    hand := { s.hand with binReserved := 1 } }
theorem wit_picker_done : (∀ k ∈ [PickerOrder.pick, .retract, .lift, .stay, .place],
      (completing k .gripWait id).hand.picker.order = some (k, ((completing k .gripWait id).node .picker).seq)) ∧
    (completing .pick .gripWait id).hand.picker.state = .serving ∧ (completing .pick .gripWait id).hand.picker.retractDue = false ∧
    (completing .pick .gripWait id).tracker.active = some (panel .cutting false) ∧
    (completing .pick .gripWait id).hand.service.map Service.panel = some 1201 ∧
    ((completing .pick .gripWait id).half .h0)[0]? = some { board .gripWait with releaseTab := 0 } :=
  ⟨by decide, by decide, by decide, rfl, by decide, rfl⟩
theorem wit_picker_pick : let s := completing .pick .gripWait id
    let s : State := { s with disp := { s.disp with tabs := [tab 0 0 .held] } }
    (s.tab 0).map Tab.state = some .held ∧ (s.tab 0).map Tab.settlement = some none ∧
      (board .gripWait).attempts + 1 < s0.param .pickTries ∧ s0.param .pickTries ≤ 2 + 1 ∧
      s.slot 1 0 = some .reserved := by decide
theorem wit_picker_lift : (completing .lift .free id).boardState .active 0 = some .free ∧
    (completing .lift .releasing id).boardState .active 0 = some .releasing ∧
    (completing .lift .free id).hand.service.map Service.torn = some false := by decide
theorem wit_picker_stay : ((completing .stay .releasing id).tab 0).map (fun x => (x.settlement, x.owner, x.linked, x.attempts)) =
    some (some ⟨.a, true, .hold⟩, 0, none, 0) ∧ 0 < s0.param .maxAttempts ∧ s0.param .maxAttempts ≤ 3 ∧
    (completing .stay .releasing id).running = true ∧
    ({ completing .stay .releasing id with lines := s0.lines } : State).running = false ∧
    (withPanel { panel .cutting false with abort := some .aborted } (completing .stay .releasing id)).tracker.active.map
      Panel.abort = some (some .aborted) := by decide
theorem wit_picker_place : (completing .place (.lost .torn) fun v => { v with torn := true, dest := .bin }).hand.service.map
      (fun v => (v.torn, v.dest)) = some (true, .bin) ∧ 0 < (completing .place .inTransit id).hand.binReserved ∧
    (completing .place .inTransit fun v => { v with dest := .bin }).hand.service.map Service.dest = some .bin ∧
    (completing .place .inTransit fun v => { v with window := some .opened }).hand.service.map
      (fun v => (v.torn, v.dest, v.window)) = some (false, .lane 1 0, some .opened) ∧
    (completing .place .inTransit id).hand.service.map Service.window = some none := by decide
theorem wit_picker_fault : Result.fault ≠ .gripped ∧ Result.fault ≠ .missed ∧ Result.fault ≠ .ok ∧ Result.fault ≠ .dropped ∧
    Result.fault ≠ .held ∧ Result.fault ≠ .alreadyLifted := by decide
theorem wit_retract_done : let s := completing .retract .attached id
    let s : State := { s with hand := { s.hand with service := none } }
    s.hand.service = none ∧ s.hand.picker.order = some (.retract, (s.node .picker).seq) := by decide
theorem wit_index_done : let s := (completing .place .inTransit id).setNode .elevator { NodeRec.reset with seq := 5 }
    let s : State := { s with hand := { s.hand with picker := { s.hand.picker with order := none } } }
    s.hand.elevator.order = some ⟨1, 0, 5⟩ ∧ 5 = (s.node .elevator).seq ∧ s.hand.elevator.state = .indexing ∧
      s.hand.service.map (fun v => (v.dest, v.window, v.torn)) = some (.lane 1 0, none, false) ∧ s.running = true ∧
      s.hand.picker.order = none ∧ s.hand.picker.state = .serving ∧
      s.hand.service.bind s.servedState = some .inTransit ∧ (s.hand.lanes[1]?).map Lane.state = some .active := by decide

/-! Location, cutting and wear. -/

theorem wit_round : (0 : Int) < 1 := by decide
theorem wit_map : (0 : Int) < 280000 * 280000 + 0 * 0 ∧ (⟨290050 - 10050, 10060 - 10060⟩ : Pt) = ⟨290000 - 10000, 10000 - 10000⟩ := by decide
/-- A LOCATE out for the marks of section 2.5, with a third mark or without. -/
def measuring (p : Panel) (third : Bool) : State :=
  let s := withPanel p run0
  { s with locator := { s.locator with active := { LocRec.free with
    state := .measuring, n0 := some ⟨10000, 10000⟩, n1 := some ⟨290000, 10000⟩, n2 := some ⟨10000, 200000⟩, wantF2 := third } } }
/-- The marks measured: the first where it should be, and two more. -/
def measured (m1 m2 : Pt) : Status := { status false with m0 := ⟨10000, 10000⟩, m1 := m1, m2 := m2, missing := 7 }
theorem wit_locate_done : let s := measuring (panel .locating true) true
    s.locator.active.n0 = some ⟨10000, 10000⟩ ∧ s.locator.active.n1 = some ⟨290000, 10000⟩ ∧
      s.locator.active.n2.isSome = true ∧ s.locator.active.wantF2 = true ∧ s.locator.active.state = .measuring ∧
      (panel .locating true).expanding = true ∧ (panel .locating false).expanding = false ∧ s0.locator.active.state ≠ .measuring ∧
      (measured ⟨0, 0⟩ ⟨0, 0⟩).missing.getLsbD 2 = true ∧ Result.fault ≠ .found ∧ Result.fault ≠ .notFound := by decide
theorem wit_locate_checks : let k (dn dm : Pt) : Int := roundDiv ((dn.x * dm.y - dn.y * dm.x) * 1048576) (dn.x * dn.x + dn.y * dn.y)
    let scale (dn dm : Pt) : Bool := decide (|dm.x * dm.x + dm.y * dm.y - (dn.x * dn.x + dn.y * dn.y)| * 1000000 ≤
      2 * s0.param .scaleTol * (dn.x * dn.x + dn.y * dn.y))
    let dn : Pt := ⟨280000, 0⟩
    scale dn ⟨300000, 0⟩ = false ∧ scale dn ⟨0, 280000⟩ = true ∧ ¬ |k dn ⟨0, 280000⟩| ≤ s0.param .rotLimit ∧
      scale dn dn = true ∧ |k dn dn| ≤ s0.param .rotLimit ∧
      ¬ (300000 - 200000) * (300000 - 200000) ≤ s0.param .fidTol * s0.param .fidTol ∧
      0 * 0 ≤ s0.param .fidTol * s0.param .fidTol := by decide +kernel
theorem wit_filter : Filter.reset.sum = 0 ∧ Filter.reset.count = 0 ∧ [310, 295, 280, 301].length = 2 ^ Filter.reset.shift := by
  decide
/-- A record of head A's current CUT, taken and not done, with a remaining length. -/
def cutStatus (rem load : Nat) : Status := { status false with taken := 1, remaining := rem, load := load }
/-- Head A cutting board 0's release tab, its filter with a low run and with a high one and a block open or about to end. -/
def sampling (count low high : Nat) : State :=
  let s := (serving .lift .releasing none).setNode .headA { NodeRec.reset with present := true, seq := 1 }
  let s := withRack 0 (mounted .a 12000) (withHead .a { HeadRec.reset with state := .cutting, tab := some 0 } s)
  let s : State := { s with
    disp := { s.disp with tabs := [tab 0 0 .ordered] }
    hand := { s.hand with picker := { s.hand.picker with order := none } } }
  s.setFilter .a { Filter.begin 1 2400 with count := count, low := low, high := high }
theorem wit_sample : ((sampling 0 0 0).head .a).state = .cutting ∧ (cutStatus 0 0).taken = ((sampling 0 0 0).node .headA).seq ∧
    (cutStatus 0 0).done ≠ ((sampling 0 0 0).node .headA).seq ∧ ((sampling 0 0 0).filter .a).len = 2400 ∧
    2400 - min 2400 2400 < (sampling 0 0 0).param .loadBlank ∧ (sampling 0 0 0).param .loadBlank ≤ 2400 - min 2400 0 ∧
    0 + 1 ≠ 2 ^ 1 ∧ 1 + 1 = 2 ^ 1 ∧ (s0.head .a).state ≠ .cutting := by decide
theorem wit_sample_stops : (0 + 0) / 2 ^ 1 < s0.param .loadLow ∧ s0.param .lowConfirm ≤ 15 + 1 ∧
    s0.param .loadHigh < (0 + 8190) / 2 ^ 1 ∧ s0.param .highConfirm ≤ 15 + 1 ∧ (sampling 1 15 15).mounted .a = some 0 ∧
    (sampling 1 15 15).rackAt 0 = some (mounted .a 12000) ∧ ((sampling 1 15 15).head .a).tab = some 0 := by decide
theorem wit_early_lift : let s := (sampling 0 0 0).setParam Param.earlyLead.num 500
    ((headData .a (cutStatus 400 0) s).head .a).state = .cutting ∧ 0 < s.param .earlyLead ∧ 400 ≤ s.param .earlyLead ∧
      (s.head .a).tab.bind s.tab = some (tab 0 0 .ordered) ∧ (tab 0 0 .ordered).release = true ∧ s.activeId = 1201 ∧
      s.boardState .active 0 = some .releasing ∧ s.hand.service.map (fun v => (v.panel, v.board, v.early)) = some (1201, 0, .none) ∧
      s.running = true ∧ s.hand.picker.order = none ∧ s.hand.binFilled + s.hand.binReserved < s.param .rejectCapacity ∧
      ¬ 501 ≤ s.param .earlyLead ∧ s0.hand.service = none := by decide +kernel
/-- Head A IDLE with tab 0 at the front of its queue, the other head far away. -/
def cuttable : State :=
  let s := withHead .b { HeadRec.reset with state := .idle, x := some 720000 }
    (withHead .a { HeadRec.reset with state := .idle, x := some 0, queue := [0] } (withRack 0 (mounted .a 0) cutCell))
  { s with
    lines := { s.lines with extract := Line.steady true }
    disp := { s.disp with tabs := [{ tab 0 0 .queued with release := false }] } }
theorem wit_clearance : (cuttable.head .a).state = .idle ∧ ((arbiter .a cuttable).head .a).state = .cutting := by decide +kernel
/-- Head A's only tab behind head B, which is IDLE at an x with a queue. -/
def blockedBy (b : HeadState) (x : Option Int) (queue : List Nat) : State :=
  withHead .b { HeadRec.reset with state := b, x := x, queue := queue } cuttable
theorem wit_park : ((blockedBy .idle (some 200000) []).head .a).state = .idle ∧ ((blockedBy .idle (some 200000) []).head .a).queue ≠ [] ∧
    (blockedBy .idle (some 200000) []).running = true ∧ (blockedBy .idle (some 200000) []).lines.extract.cond = true ∧
    (blockedBy .idle (some 200000) []).cutting = true ∧ (blockedBy .idle (some 200000) []).firstPassing .a = none ∧
    ((blockedBy .idle (some 200000) []).head .b).x = some 200000 ∧ (200000 : Int) ≠ 720000 ∧
    ((blockedBy .idle (some 200000) []).head .b).queue = [] ∧ (cuttable.firstPassing .a).isSome = true := by decide +kernel
/-- Both heads near the tab each has in its queue. -/
def blocking : State :=
  let s := blockedBy .idle (some 200000) [0]
  withHead .a { s.head .a with x := some 150000 } s
theorem wit_park_waits : (blockedBy .changing (some 200000) []).firstPassing .a = none ∧
    ((blockedBy .changing (some 200000) []).head .b).state ≠ .idle ∧
    (blocking.head .b).state = .idle ∧ (blocking.head .b).queue ≠ [] ∧ blocking.firstPassing .b = none ∧ blocking.firstPassing .a = none ∧
    blocking.follow = .b ∧ (blocking.head .b).x = some 200000 ∧ ¬ ((s0.head .a).state = .idle) := by decide +kernel
/-- Head B, at 200,000, has a tab of its own that passes. -/
def bothQueued : State :=
  let s := blockedBy .idle (some 200000) [1]
  { s with disp := { s.disp with tabs := [{ tab 0 0 .queued with release := false }, { tabAt 480000 490000 with index := 1 }] } }
theorem wit_park_other_passes : bothQueued.firstPassing .a = none ∧ bothQueued.firstPassing .b = some 1 := by decide +kernel
theorem wit_cut_step : let s := waiting (.steadyTimerExpiry (.sense .extractOk)) (timing .extractOk true cuttable)
    step s = .next (stepped s) ∧
      ((stepped s).node .headA).order = .cut 1201 0 ⟨171103, 112812⟩ ⟨173503, 112816⟩ 2400 2 2 ∧
      (s.node .headA).order = .none := ⟨rfl, by decide +kernel, by decide⟩
/-- Head A at the end of a cut of board 0's tab 0, as it stopped, with the early lift as it stands. -/
def cutEnds (st : HeadState) (cause : StopCause) (x : Tab) (r : BoardState) (early : EarlyLift) : State :=
  let s := (serving .lift r none).modService fun v => { v with early := early }
  { withHead .a { cuttingHead with state := st, cause := some cause } (withRack 0 (mounted .a 12000) s) with
    disp := { s.disp with
      heads := ⟨{ cuttingHead with state := st, cause := some cause }, HeadRec.reset⟩, tabs := [{ x with place := none }] }
    hand := { s.hand with picker := { s.hand.picker with order := none } } }
theorem wit_cut_done : let s := cutEnds .cutting .hold (tab 0 0 .ordered) .releasing .none
    (s.head .a).tab = some 0 ∧ (s.tab 0).map (fun x => (x.owner, x.release, x.standing)) = some (0, true, false) ∧
      s.boardState .active 0 = some .releasing ∧ 0 ∉ (s.head .a).queue ∧ (s.head .a).state = .cutting ∧ s.running = true ∧
      s.hand.picker.order = none ∧ s.hand.picker.state = .serving ∧ s.activeId = 1201 := by decide
theorem wit_cut_early (e : EarlyLift) : (cutEnds .cutting .hold (tab 0 0 .ordered) .releasing e).earlyLift 0 = e := by
  cases e <;> decide +kernel
theorem wit_cut_stopped (c : StopCause) : ((cutEnds .stopping c (tab 0 0 .ordered) .releasing .none).head .a).state = .stopping ∧
    ((cutEnds .stopping c (tab 0 0 .ordered) .releasing .none).head .a).cause = some c ∧ Result.stopped ≠ .alreadyDone :=
  ⟨rfl, rfl, by decide⟩
theorem wit_cut_settled : let s := cutEnds .stopping .broken { tab 0 0 .ordered with release := false, attempts := 2 } .attached .none
    (s.tab 0).map (fun x => (x.standing, x.release)) = some (false, false) ∧ s0.param .maxAttempts ≤ 2 + 1 ∧
      1 + 1 < s0.param .maxAttempts ∧ s.boardState .active 0 = some .attached ∧ s.abortMarked = false ∧
      (withPanel { panel .cutting false with abort := some .aborted } s).abortMarked = true ∧
      ({ tab 0 0 .ordered with standing := true }).standing = true := by decide
theorem wit_cut_counts : let s := cutEnds .cutting .hold (tab 0 0 .ordered) .releasing .none
    (tab 0 0 .ordered).linked ≠ some (tab 0 0 .ordered).owner ∧ (s.board .active 0).isSome = true ∧
      (headCompleted .a (.cut 0 0 ⟨0, 0⟩ ⟨0, 0⟩ 0 0 0) .ok 0 s).isRetained 0 = s.isRetained 0 := by decide +kernel
/-- A release cut whose board a picker fault made READY, still running when the head stops. -/
def readyCut : State :=
  let s := cutEnds .stopping .hold (tab 0 0 .ordered) .ready .none
  { s with hand := { s.hand with service := none } }
theorem wit_cut_ready : (readyCut.head .a).state = .stopping ∧ readyCut.earlyLift 0 = .none ∧
    readyCut.boardState .active 0 = some .ready ∧ 0 ∉ readyCut.tracker.pickQueue ∧
    (readyCut.tab 0).map (fun x => (x.release, x.standing)) = some (true, false) := by decide +kernel
theorem wit_cut_faulted_release : let s := cutEnds .stopping .hold (tab 0 0 .ordered) .releasing .none
    (s.head .a).state = .stopping ∧ (s.board .active 0).map Board.state = some .releasing ∧
      ({ tab 0 0 .ordered with standing := true }).standing = true ∧ s.abortMarked = false ∧
      (withPanel { panel .cutting false with abort := some .aborted } s).abortMarked = true := by decide
/-- R66: the tab that ends without DONE is HELD and its board joins the front of the pick queue; DONE loses the board. -/
theorem test_cut_ready : (headCompleted .a .stop .stopped 560 readyCut).tracker.pickQueue = [0] ∧
    (headCompleted .a .stop .alreadyDone 0 readyCut).boardState .active 0 = some (.lost .pickerFault) := by decide +kernel
/-- A head that CELL_RESET stopped, with a bit short of BIT_LIFE or at it. -/
def resetStop (wear : Nat) : State :=
  withHead .a { HeadRec.reset with state := .stopping, cause := some .reset, timer := some 9 } (withRack 0 (mounted .a wear) s0)
theorem wit_reset_stop : ((resetStop 0).head .a).tab = none ∧ ((resetStop 0).head .a).state = .stopping ∧
    (accountAbort .a (some 560) (resetStop 0)).due .a = false ∧ (accountAbort .a none (resetStop 60000)).due .a = true ∧
    ((resetStop 0).head .a).queue = [] := by decide +kernel
theorem wit_cut_fault : Result.fault ≠ .ok ∧ Result.fault ≠ .stopped ∧ Result.fault ≠ .alreadyDone := by decide
theorem wit_park_done : let s := withHead .b { HeadRec.reset with state := .parking, timer := some 1 } s0
    (s.head .b).state = .parking ∧ s.due .b = false ∧
      ({ s with spindle := { s.spindle with due := ⟨false, true⟩ } } : State).due .b = true := by decide
theorem wit_tool_done : (changing.head .a).state = .changing ∧
    changing.change .a = some { outgoing := some 1, returned := false, fetch := some 2, state := .taken, timer := some 30000 } ∧
    changing.spindle.rack[2]? = some { spare 1 400 with engaged := some .a } ∧ Head.a ∉ changing.spindle.waiting ∧
    changing.spindle.rack[1]? = some (mounted .a 8519) ∧ Result.fault ≠ .ok ∧ Result.fault ≠ .noBit := by decide
theorem wit_charge : (withRack 0 (mounted .a 12000) s0).mounted .a = some 0 ∧
    (withRack 0 (mounted .a 12000) s0).rackAt 0 = some (mounted .a 12000) := by decide

end Sys2Proof.Tests
end

section
/-! The recipe store: the checks and effects of RECIPE_LOAD, RECIPE_COMMIT and RECIPE_DROP (R8 to R11) and the end of a
validation (R15), each meaning said once as its branches; and the laws at reset. -/

namespace Sys2Proof.Machine

/-! ### Request commands of a ready part -/

section
variable {s : State} {c : Instr} {r : Request} (hc : requestOf c = some r) (hs : s.ready = true)
include hc hs

/-- A request command that a ready part refuses. -/
theorem exec_refused {code : Code} (h : act r s = answered code s) :
    exec c s = .next (s.answer r.src r.tag r.body.kind code []) := by rw [exec_ready hc hs, handle_refused h]

/-- A request command that a ready part accepts and answers OK. -/
theorem exec_accepted {t : State} (h : act r s = accepted t) :
    exec c s = .next (t.answer r.src r.tag r.body.kind .ok []) := by rw [exec_ready hc hs, handle_accepted h]

/-- A request command that a ready part accepts and answers later. -/
theorem exec_silent {t : State} (h : act r s = (t, none)) : exec c s = .next t := by rw [exec_ready hc hs, handle_silent h]

end

/-! ### The slots of the store -/

/-- A change of a slot that is there puts the changed record in its place. -/
theorem State.modSlot_eq_set {s : State} {i : Nat} {r : RecipeSlot} (h : s.recipes.slots[i]? = some r)
    (f : RecipeSlot → RecipeSlot) :
    s.modSlot i f = { s with recipes := { s.recipes with slots := s.recipes.slots.set i (f r) } } := by
  rw [State.modSlot, modify_eq_set _ _ _ _ h]

/-- A slot beyond the eight is not there. -/
theorem State.slotRec_none {s : State} {slot : Nat} (hl : s.recipes.slots.length = 8) (h : 8 ≤ slot) :
    s.slotRec slot = none := List.getElem?_eq_none (by omega)

/-- A slot is named by an announced panel, or the active panel is being expanded from it (R2). -/
theorem State.named_iff (s : State) (i : Nat) : s.named i = true ↔
    (∃ a ∈ s.tracker.announce, a.slot = i) ∨ ∃ p, s.tracker.active = some p ∧ p.expanding = true ∧ p.slot = i := by
  cases h : s.tracker.active <;> simp [State.named, h]

/-- A slot refuses a change exactly when it is VALIDATING, or READY and IN_USE (R2, R8). -/
theorem State.slotBusy_iff {s : State} {i : Nat} {r : RecipeSlot} (h : s.slotRec i = some r) :
    s.slotBusy i = true ↔ r.mode = .validating ∨ (r.mode = .ready ∧ s.named i = true) := by
  simp [State.slotBusy, State.inUse, h]

/-- Every item of a load that passes check 3 is a known one, so that the load writes as many as it lists. -/
theorem loadItems_length {l : List LoadItem} (h : l.all loadItemOk = true) : (loadItems l).length = l.length := by
  rw [loadItems, List.length_filterMap_eq_countP, List.countP_eq_length]
  intro i hi
  cases i with
  | known i => rfl
  | unknown => exact absurd (List.all_eq_true.1 h _ hi) (by simp [loadItemOk])

theorem loadItems_known (l : List Item) : loadItems (l.map LoadItem.known) = l := by
  simp [loadItems, List.filterMap_map]

/-- The unfilled offsets of a load's target, counted one by one (R8). -/
theorem unfilled_eq (l : List (Option Item)) (o n : Nat) :
    unfilled l o n = ((List.range n).filter fun j => l[o + j]? == some none).length := by
  unfold unfilled
  induction n with
  | zero => rfl
  | succ n ih =>
    rw [List.take_add_one, List.countP_append, ih, List.range_succ, List.filter_append, List.length_append,
      List.getElem?_drop]
    congr 1
    rcases h : l[o + n]? with _ | _ | i <;> simp [h]

/-- The checks of a RECIPE_LOAD (R8) as the model makes them, in their order, and its effect (R9). -/
theorem doRecipeLoad_of_slot {s : State} {slot : Nat} {r : RecipeSlot} (h : s.slotRec slot = some r)
    {offset count : Nat} (ho : offset < 512) (hc : 0 < count) (hc12 : count ≤ 12) (items : List LoadItem) :
    doRecipeLoad slot offset count items s =
      if s.slotBusy slot then answered .busy s
      else if items.all loadItemOk = false then answered .range s
      else if 512 < offset + (loadItems items).length then answered .tooLong s
      else if 2048 < s.recipes.total + unfilled r.items offset (loadItems items).length then answered .storeFull s
      else accepted { s with recipes :=
        { slots := s.recipes.slots.set slot (r.load offset (loadItems items))
          total := s.recipes.total + unfilled r.items offset (loadItems items).length } } := by
  have hb : ¬ (512 ≤ offset ∨ count = 0 ∨ 12 < count) := by omega
  simp only [doRecipeLoad, h, if_neg hb, State.modSlot_eq_set h]

/-- Operands outside their ranges fail the first check (R8). -/
theorem doRecipeLoad_range {s : State} {slot offset count : Nat} (hl : s.recipes.slots.length = 8)
    (h : 8 ≤ slot ∨ 512 ≤ offset ∨ count = 0 ∨ 12 < count) (items : List LoadItem) :
    doRecipeLoad slot offset count items s = answered .range s := by
  unfold doRecipeLoad
  cases hr : s.slotRec slot with
  | none => rfl
  | some r =>
    have hb : 512 ≤ offset ∨ count = 0 ∨ 12 < count := h.resolve_left fun h8 => by
      rw [State.slotRec_none hl h8] at hr; cases hr
    exact if_pos hb

/-- Settles O13: one lemma gives the checks of R8 in their order, and each clause says which of them fails first. -/
theorem recipeLoadChecks : Obligations.RecipeLoadChecks := by
  unfold Obligations.RecipeLoadChecks
  intro src tag slot offset count items s hs hl refused
  have refuse {c : Code} (h : doRecipeLoad slot offset count items s = answered c s) : refused c :=
    exec_refused (r := ⟨src, tag, .recipeLoad slot offset count items⟩) rfl hs h
  refine ⟨fun r hr => ?_, fun h => refuse (doRecipeLoad_range hl h items), fun r hr ho hc hc12 => ?_,
    fun r _ _ _ => unfilled_eq _ _ _⟩
  · rw [State.slotBusy_iff hr, State.named_iff]
  · have run := doRecipeLoad_of_slot hr ho hc hc12 items
    refine ⟨fun hb => refuse ?_, fun hb hi => refuse ?_, fun hb hi hlen => ?_⟩
    · rw [run, if_pos hb]
    · rw [run, if_neg (by simp [hb]), if_pos hi]
    · rw [loadItems_length hi, hlen, if_neg (by simp [hb]), if_neg (by simp [hi])] at run
      refine ⟨fun h => refuse ?_, fun h hfull => refuse ?_⟩
      · rw [run, if_pos h]
      · rw [run, if_neg (by omega), if_pos hfull]

/-- Settles O14: the load passes every check of R8, and what it writes is `writeItems` (R9). -/
theorem recipeLoadStores : Obligations.RecipeLoadStores := by
  unfold Obligations.RecipeLoadStores
  intro src tag slot offset items r s hs hr hlen hne h12 hb hok h512 htot
  have hpos : 0 < items.length := List.length_pos_of_ne_nil hne
  have hall : (items.map LoadItem.known).all loadItemOk = true := by
    rw [List.all_map]; exact hok
  obtain ⟨len, written, kept⟩ := writeItems_spec items offset r.items
  refine ⟨r.load offset items, ?_, rfl, len.trans hlen, fun j => written j (by omega), kept⟩
  have run := doRecipeLoad_of_slot (s := s) (offset := offset) hr (by omega) hpos h12 (items.map LoadItem.known)
  rw [loadItems_known, if_neg (by simp [hb]), if_neg (by simp [hall]), if_neg (by omega), if_neg (by omega)] at run
  exact exec_accepted (r := ⟨src, tag, .recipeLoad slot offset items.length (items.map .known)⟩) rfl hs run

/-- Operands outside their ranges fail the first check (R11). -/
theorem doRecipeCommit_range {s : State} {slot count : Nat} (hl : s.recipes.slots.length = 8)
    (h : 8 ≤ slot ∨ count = 0 ∨ 512 < count) (src tag check : Nat) :
    doRecipeCommit src tag slot count check s = answered .range s := by
  unfold doRecipeCommit
  cases hr : s.slotRec slot with
  | none => rfl
  | some r => exact if_pos (h.resolve_left fun h8 => by rw [State.slotRec_none hl h8] at hr; cases hr)

/-- The checks of a RECIPE_COMMIT (R11) as the model makes them, in their order, and its effect. -/
theorem doRecipeCommit_of_slot {s : State} {slot : Nat} {r : RecipeSlot} (h : s.slotRec slot = some r) {count : Nat}
    (hc : 0 < count) (hc512 : count ≤ 512) (src tag check : Nat) :
    doRecipeCommit src tag slot count check s =
      if s.slotBusy slot then answered .busy s
      else if r.mode = .empty then answered .badState s
      else ({ s with
        recipes := { s.recipes with slots := s.recipes.slots.set slot (r.commit count check src tag) }
        req := { s.req with reserved := s.req.reserved + 1 } }, none) := by
  have hb : ¬ (count = 0 ∨ 512 < count) := by omega
  simp only [doRecipeCommit, h, if_neg hb, State.modSlot_eq_set h]

/-- The check of a RECIPE_DROP (R10) and its effect. -/
theorem doRecipeDrop_of_slot {s : State} {slot : Nat} {r : RecipeSlot} (h : s.slotRec slot = some r) :
    doRecipeDrop slot s =
      if s.slotBusy slot then answered .busy s
      else accepted { s with recipes :=
        { slots := s.recipes.slots.set slot RecipeSlot.reset, total := s.recipes.total - r.filled } } := by
  simp only [doRecipeDrop, h, State.modSlot_eq_set h]

/-- Settles O15: each request's checks are the branches of its meaning, in their order (R10, R11). -/
theorem recipeCommitAndDrop : Obligations.RecipeCommitAndDrop := by
  unfold Obligations.RecipeCommitAndDrop
  intro src tag slot s hs hl put
  constructor
  · intro count check refused
    have refuse {c : Code} (h : doRecipeCommit src tag slot count check s = answered c s) : refused c :=
      exec_refused (r := ⟨src, tag, .recipeCommit slot count check⟩) rfl hs h
    refine ⟨fun h => refuse (doRecipeCommit_range hl h _ _ _), fun r hr hc hc512 => ?_⟩
    have checks := doRecipeCommit_of_slot (s := s) hr hc hc512 src tag check
    refine ⟨fun hb => refuse ?_, fun hb he => refuse ?_, fun hb he => ?_⟩
    · rw [checks, if_pos hb]
    · rw [checks, if_neg (by simp [hb]), if_pos he]
    · rw [if_neg (by simp [hb]), if_neg he] at checks
      exact exec_silent (r := ⟨src, tag, .recipeCommit slot count check⟩) rfl hs checks
  · intro refused
    have refuse {c : Code} (h : doRecipeDrop slot s = answered c s) : refused c :=
      exec_refused (r := ⟨src, tag, .recipeDrop slot⟩) rfl hs h
    refine ⟨fun h8 => refuse ?_, fun r hr => ⟨fun hb => refuse ?_, fun hb => ?_⟩⟩
    · rw [doRecipeDrop, State.slotRec_none hl h8]
    · rw [doRecipeDrop_of_slot hr, if_pos hb]
    · have checks := doRecipeDrop_of_slot (s := s) hr
      rw [if_neg (by simp [hb])] at checks
      exact exec_accepted (r := ⟨src, tag, .recipeDrop slot⟩) rfl hs checks

/-- A slot that is not VALIDATING has no validation to end (R15). -/
theorem endValidation_idle {s : State} {i : Nat} {r : RecipeSlot} (h : s.recipes.slots[i]? = some r)
    (hm : r.mode ≠ .validating) : endValidation i s = s := by
  unfold endValidation State.slotRec
  rw [h]
  cases hv : r.validation <;> simp [hv, hm]

/-- A validation ends with the slot and the reply that `RecipeSlot.finish` gives (R15). -/
theorem endValidation_eq {s : State} {i : Nat} {r : RecipeSlot} {v : Validation} (h : s.recipes.slots[i]? = some r)
    (hm : r.mode = .validating) (hv : r.validation = some v) :
    endValidation i s = replyReserved
      { dest := v.src, tag := v.tag, kind := 2, code := r.finish.2.1, data := r.finish.2.2 }
      (s.modSlot i fun _ => r.finish.1) := by
  simp [endValidation, State.slotRec, h, hv, hm]

/-- Settles O16: both endings are `RecipeSlot.finish` on what the validation found. -/
theorem validationEnds : Obligations.ValidationEnds := by
  unfold Obligations.ValidationEnds
  intro slot r s hr put
  have run : exec (.validationEnd slot) s = .next (endValidation slot s) := rfl
  refine ⟨fun hm => by rw [run, endValidation_idle hr hm], fun v hm hv => ⟨fun code detail hc => ?_, fun w hw => ?_⟩⟩
  · rw [run, endValidation_eq hr hm hv, State.modSlot_eq_set hr]
    simp only [RecipeSlot.finish, hc]; rfl
  · rw [run, endValidation_eq hr hm hv, State.modSlot_eq_set hr]
    simp only [RecipeSlot.finish, hw]; rfl

/-! ### The laws at reset -/

/-- Settles O10: the laws of the queues, the ports and the node records are read off the reset values, and those of the tables
are evaluated on them. -/
theorem resetMeetsLaws : Obligations.ResetMeetsLaws := by
  unfold Obligations.ResetMeetsLaws
  have store : State.reset.storeLaw = true := by decide +kernel
  have params : State.reset.paramsInRange = true := by decide +kernel
  have notices : State.reset.noticesOk = true := by decide +kernel
  exact ⟨rfl, params, rfl, rfl, rfl, rfl, store, rfl, notices, rfl⟩

end Sys2Proof.Machine
end

section
/-! What the ring's bytes read as: layout items read back from their encoding (R198), requests operand by operand (10.6), done
results and status bodies (R197). -/

namespace Sys2Proof.Machine

/-! ### Fields -/

/-- A byte field reads back. -/
theorem byteOf_toNat {n : Nat} (h : isByte n = true) : (byteOf n).toNat = n := by
  simp only [isByte, decide_eq_true_eq] at h
  simp only [byteOf, BitVec.toNat_ofNat]; omega

theorem readWord_eq (a b : Byte) : readWord a b = 256 * a.toNat + b.toNat := by unfold readWord; omega

theorem readLong_eq (a b c d : Byte) : readLong a b c d = 65536 * readWord a b + readWord c d := by unfold readLong; omega

/-- A word field reads back. -/
theorem readWord_wordBytes {n : Nat} (h : isWord n = true) : readWord (byteOf (n / 256)) (byteOf n) = n := by
  simp only [isWord, decide_eq_true_eq] at h
  simp only [readWord, byteOf, BitVec.toNat_ofNat]; omega

/-- A long field reads back. -/
theorem readLong_longBytes {n : Nat} (h : n < 4294967296) :
    readLong (byteOf (n / 16777216)) (byteOf (n / 65536)) (byteOf (n / 256)) (byteOf n) = n := by
  simp only [readLong, readWord, byteOf, BitVec.toNat_ofNat]; omega

/-- A coordinate field reads back. -/
theorem readCoord_coordBytes {z : Int} (h : isCoord z = true) :
    let n := (BitVec.ofInt 32 z).toNat
    readCoord (byteOf (n / 16777216)) (byteOf (n / 65536)) (byteOf (n / 256)) (byteOf n) = z := by
  simp only [isCoord, Bool.and_eq_true, decide_eq_true_eq] at h
  intro n
  rw [readCoord, readLong_longBytes (n := n) (BitVec.ofInt 32 z).isLt, BitVec.ofNat_toNat, BitVec.setWidth_eq,
    BitVec.toInt_ofInt, Int.bmod_eq_of_le (by norm_num; omega) (by norm_num; omega)]

/-! ### Items -/

/-- An item whose operands fit their fields reads back from its encoding, with the bytes behind it left over (R198). -/
theorem readItem_encodeItem {i : Item} (h : i.fits = true) (rest : List Byte) :
    readItem (encodeItem i ++ rest) = .item i rest := by
  cases i with
  | fiducial i x y =>
    simp only [Item.fits, Bool.and_eq_true] at h
    obtain ⟨⟨hi, hx⟩, hy⟩ := h
    show ItemRead.item (.fiducial _ (readCoord _ _ _ _) (readCoord _ _ _ _)) rest = _
    rw [byteOf_toNat hi, readCoord_coordBytes hx, readCoord_coordBytes hy]
  | board v dx dy gx gy =>
    simp only [Item.fits, Bool.and_eq_true] at h
    obtain ⟨⟨⟨⟨hv, hdx⟩, hdy⟩, hgx⟩, hgy⟩ := h
    show ItemRead.item (.board _ (readCoord _ _ _ _) (readCoord _ _ _ _) (readCoord _ _ _ _) (readCoord _ _ _ _)) rest = _
    rw [byteOf_toNat hv, readCoord_coordBytes hdx, readCoord_coordBytes hdy, readCoord_coordBytes hgx,
      readCoord_coordBytes hgy]
  | tab k o dx dy l f d =>
    simp only [Item.fits, Bool.and_eq_true] at h
    obtain ⟨⟨⟨⟨hdx, hdy⟩, hl⟩, hf⟩, hd⟩ := h
    have form : readItem (encodeItem (.tab k o dx dy l f d) ++ rest) = match readForm (formByte k o) with
        | some (k, o) => .item (.tab k o dx dy l f d) rest
        | none => .unknown := by
      show (match readForm (formByte k o) with
        | some (k, o) => ItemRead.item (.tab k o (readCoord _ _ _ _) (readCoord _ _ _ _) (readWord _ _) _ _) rest
        | none => .unknown) = _
      rw [readCoord_coordBytes hdx, readCoord_coordBytes hdy, readWord_wordBytes hl, byteOf_toNat hf, byteOf_toNat hd]
    rw [form]
    cases k <;> cases o <;> rfl
  | opn c dx dy =>
    simp only [Item.fits, Bool.and_eq_true] at h
    obtain ⟨⟨hc, hdx⟩, hdy⟩ := h
    show ItemRead.item (.opn _ (readCoord _ _ _ _) (readCoord _ _ _ _)) rest = _
    rw [byteOf_toNat hc, readCoord_coordBytes hdx, readCoord_coordBytes hdy]
  | cls => rfl
  | exitAfter n =>
    show ItemRead.item (.exitAfter _) rest = _
    rw [byteOf_toNat h]

/-- The operand bytes that follow a layout item's kind byte (10.5); 0 for a byte that names no item. -/
def itemBytes (k : Byte) : Nat :=
  match k.toNat with
  | 1 => 9
  | 2 => 17
  | 3 => 13
  | 4 => 9
  | 6 => 1
  | _ => 0

/-- Bytes that end before an item's last operand are a body that ends inside an item. -/
theorem readItem_short {k : Byte} {rest : List Byte} (h : rest.length < itemBytes k) : readItem (k :: rest) = .short := by
  unfold itemBytes at h
  unfold readItem
  split at h
  case h_6 => omega
  all_goals
    next hk =>
      simp only [hk]
      split
      · simp only [List.length_cons] at h; omega
      · rfl

/-- An item's encoding is its kind byte and the operand bytes of that kind (10.5). -/
theorem encodeItem_length (i : Item) : ∃ k tail, encodeItem i = k :: tail ∧ tail.length = itemBytes k := by
  cases i <;> exact ⟨_, _, rfl, rfl⟩

/-- A proper initial part of an item's encoding is a body that ends inside that item. -/
theorem readItem_prefix {i : Item} {part : List Byte} (h : part <+: encodeItem i) (hne : part ≠ encodeItem i) :
    readItem part = .short := by
  obtain ⟨k, tail, e, len⟩ := encodeItem_length i
  rw [e] at h hne
  cases part with
  | nil => rfl
  | cons j part =>
    obtain ⟨rfl, ht⟩ := List.cons_prefix_cons.1 h
    refine readItem_short (len ▸ lt_of_le_of_ne ht.length_le fun he => hne ?_)
    rw [ht.eq_of_length he]

/-- A kind byte outside 1 to 6 names no item (R198). -/
theorem readItem_kind_unknown {k : Byte} (h : k = 0 ∨ 6 < k.toNat) (rest : List Byte) : readItem (k :: rest) = .unknown := by
  have hk : k.toNat = 0 ∨ 6 < k.toNat := h.imp_left fun h => by rw [h]; rfl
  simp only [readItem]
  split <;> first | omega | rfl

/-- A TAB form byte with a bit other than 0 and 1 set names no item (R198). -/
theorem readItem_form_unknown {f : Byte} (h : 3 < f.toNat) {rest : List Byte} (hl : 12 ≤ rest.length) :
    readItem (3 :: f :: rest) = .unknown := by
  have form : readForm f = none := by unfold readForm; split <;> first | omega | rfl
  simp only [readItem, show BitVec.toNat (3 : Byte) = 3 from rfl]
  split
  · next e => obtain ⟨rfl, rfl⟩ := List.cons.inj e; rw [form]
  · next short =>
    exfalso
    rcases rest with _ | ⟨_, _ | ⟨_, _ | ⟨_, _ | ⟨_, _ | ⟨_, _ | ⟨_, _ | ⟨_, _ | ⟨_, _ | ⟨_, _ | ⟨_, _ | ⟨_, _ |
      ⟨_, rest⟩⟩⟩⟩⟩⟩⟩⟩⟩⟩⟩⟩
    case cons => exact short _ _ _ _ _ _ _ _ _ _ _ _ _ _ rfl
    all_goals simp at hl

/-- Items are read one after another, and reading goes on behind them. -/
theorem readItems_append {l : List Item} (h : ∀ i ∈ l, i.fits = true) (m : Nat) (more : List Byte) :
    readItems (l.length + m) (l.flatMap encodeItem ++ more) = (readItems m more).map (l.map LoadItem.known ++ ·) := by
  induction l with
  | nil => simp
  | cons i l ih =>
    have first := readItem_encodeItem (h i (by simp)) (l.flatMap encodeItem ++ more)
    rw [List.length_cons, Nat.add_right_comm, readItems, List.flatMap_cons, List.append_assoc, first]
    simp only
    rw [ih fun j hj => h j (by simp [hj]), Option.map_map]; rfl

/-! ### Requests -/

/-- The operand bytes that a kind's fixed operands take, count bytes included (10.6). -/
def operandBytes : Nat → Nat
  | 1 => 4
  | 2 => 5
  | 3 => 1
  | 4 => 4
  | 7 => 2
  | 11 => 6
  | 12 => 1
  | 13 => 1
  | 15 => 7
  | 16 => 1
  | 17 => 5
  | 18 => 1
  | 19 => 5
  | 20 => 1
  | 21 => 2
  | _ => 0

/-- A body that ends before its last fixed operand is not read (R179). -/
theorem readOperands_short {kind : Nat} {bs : List Byte} (h : bs.length < operandBytes kind) :
    readOperands kind bs = none := by
  unfold operandBytes at h
  split at h
  case h_16 => omega
  all_goals
    simp only [readOperands]
    rcases bs with _ | ⟨_, _ | ⟨_, _ | ⟨_, _ | ⟨_, _ | ⟨_, _ | ⟨_, _ | ⟨_, rest⟩⟩⟩⟩⟩⟩⟩ <;> first | rfl | exact absurd h (by simp only [List.length_cons]; omega)

/-- A list behind its count byte is read when the bytes hold all its members (10.6). -/
theorem readList_cons (n : Byte) (rest : List Byte) :
    readList (n :: rest) = if rest.length < n.toNat then none else some ((rest.take n.toNat).map BitVec.toNat) := rfl

/-- A load's body: its slot, its offset, its count, and as many items as the count says (10.6). -/
theorem readOperands_load (a b c n : Byte) (bs : List Byte) : readOperands 1 (a :: b :: c :: n :: bs) =
    (readItems n.toNat bs).map (.recipeLoad a.toNat (readWord b c) n.toNat) := rfl

/-- A request whose operands are not read is malformed (R179). -/
theorem readRequest_none {src kind : Nat} {spare tag : Byte} {bs : List Byte} (h : readOperands kind bs = none) :
    readRequest src kind spare (tag :: bs) = { src := src, tag := tag.toNat, body := .malformed kind } := by
  rw [readRequest, h]; rfl

/-- A request whose operands are read is the request they make (10.6). -/
theorem readRequest_some {src kind : Nat} {spare tag : Byte} {bs : List Byte} {body : ReqBody}
    (h : readOperands kind bs = some body) :
    readRequest src kind spare (tag :: bs) = { src := src, tag := tag.toNat, body := body } := by
  rw [readRequest, h]; rfl

/-- A load's items, as many as its count says. -/
theorem readItems_all {items : List Item} (h : ∀ i ∈ items, i.fits = true) {n : Nat} (hn : items.length = n)
    (more : List Byte) : readItems n (items.flatMap encodeItem ++ more) = some (items.map LoadItem.known) := by
  have := readItems_append h 0 more
  rw [Nat.add_zero, hn] at this
  simpa [readItems] using this

/-- Reading a load's items stops inside one that the body cuts short (R179). -/
theorem readItems_short {items : List Item} (h : ∀ i ∈ items, i.fits = true) {n : Nat} (hn : items.length < n)
    {more : List Byte} (hm : readItem more = .short) : readItems n (items.flatMap encodeItem ++ more) = none := by
  obtain ⟨m, rfl⟩ : ∃ m, n = items.length + (m + 1) := ⟨n - items.length - 1, by omega⟩
  rw [readItems_append h, readItems, hm]; rfl

/-- Reading a load's items stops at bytes that name no item (R198). -/
theorem readItems_unknown {items : List Item} (h : ∀ i ∈ items, i.fits = true) {n : Nat} (hn : items.length < n)
    {more : List Byte} (hm : readItem more = .unknown) :
    readItems n (items.flatMap encodeItem ++ more) = some (items.map LoadItem.known ++ [LoadItem.unknown]) := by
  obtain ⟨m, rfl⟩ : ∃ m, n = items.length + (m + 1) := ⟨n - items.length - 1, by omega⟩
  rw [readItems_append h, readItems, hm]; rfl

/-! ### Results and status bodies -/

/-- A done result read by its code and the order's kind number (R197). -/
theorem readResult_eq (o : Order) (code : Nat) :
    readResult o code =
      if code = 0 ∧ o.kind ∈ [1, 3, 4, 6, 7, 9, 10] then .ok
      else if code = 2 ∧ o.kind = 2 then .stopped
      else if code = 3 ∧ o.kind = 2 then .alreadyDone
      else if code = 4 ∧ o.kind = 4 then .noBit
      else if code = 5 ∧ o.kind = 5 then .gripped
      else if code = 6 ∧ o.kind = 5 then .missed
      else if code = 7 ∧ o.kind ∈ [7, 9] then .dropped
      else if code = 8 ∧ o.kind = 8 then .held
      else if code = 9 ∧ o.kind = 8 then .alreadyLifted
      else if code = 10 ∧ o.kind = 11 then .found
      else if code = 11 ∧ o.kind = 11 then .notFound
      else .fault := by
  match code with
  | 0 | 1 | 2 | 3 | 4 | 5 | 6 | 7 | 8 | 9 | 10 | 11 => cases o <;> rfl
  | n + 12 => cases o <;> rfl

/-- A status body as long as its node's is read, field by field (10.4, R197). -/
theorem readStatus_long {n : Node} {b : List Byte} (h : statusLen n ≤ b.length) : readStatus n b = some
    { faulty := b.getD 0 0 != 0, taken := (b.getD 1 0).toNat, done := (b.getD 2 0).toNat, code := (b.getD 3 0).toNat
      data := wordAt b 4, x := coordAt b 6, remaining := wordAt b 10, load := min 4095 (wordAt b 12)
      missing := b.getD 6 0, m0 := ptAt b 7, m1 := ptAt b 15, m2 := ptAt b 23 } := if_neg (Nat.not_lt.2 h)

/-- Settles O40: items by `readItem_encodeItem`, each kind's operands by the shape of its body, results and status bodies field
by field. -/
theorem itemEncodingReadsBack : Obligations.ItemEncodingReadsBack := by
  unfold Obligations.ItemEncodingReadsBack
  refine ⟨fun i rest h => readItem_encodeItem h rest, fun src kind spare => ⟨rfl, fun s => rfl⟩, ?_, readResult_eq, ?_⟩
  · intro src spare tag rest word long nats read needs
    have short {kind n : Nat} (h : operandBytes kind = n) : needs kind n := fun hn =>
      readRequest_none (readOperands_short (h ▸ hn))
    have word_eq (a b : Byte) : word a b = readWord a b := (readWord_eq a b).symm
    have long_eq (a b c d : Byte) : long a b c d = readLong a b c d := by
      rw [readLong_eq, ← word_eq, ← word_eq]
    simp only [word_eq, long_eq]
    have listed {kind : Nat} {bs : List Byte} {n : Byte} {f : List Nat → ReqBody}
        (h : readOperands kind bs = (readList (n :: rest)).map f) :
        (rest.length < n.toNat → read kind bs (.malformed kind)) ∧
          (n.toNat ≤ rest.length → read kind bs (f (nats (rest.take n.toNat)))) := by
      rw [readList_cons] at h
      refine ⟨fun hn => readRequest_none ?_, fun hn => readRequest_some ?_⟩
      · rw [h, if_pos hn]; rfl
      · rw [h, if_neg (Nat.not_lt.2 hn)]; rfl
    have is {kind : Nat} {bs : List Byte} {body : ReqBody} (h : readOperands kind bs = some body) : read kind bs body :=
      readRequest_some h
    refine ⟨fun _ _ => rfl, ⟨short rfl, fun _ _ _ _ _ => is rfl⟩, ⟨short rfl, fun _ => is rfl⟩,
      ⟨short rfl, fun _ _ _ _ => listed rfl⟩, is rfl, is rfl, ⟨short rfl, fun _ _ => is rfl⟩, is rfl, is rfl, is rfl,
      ⟨short rfl, fun _ _ _ _ _ _ => listed rfl⟩, ⟨short rfl, fun _ => is rfl⟩, ⟨short rfl, fun _ => is rfl⟩, is rfl,
      ⟨short rfl, fun _ _ _ _ _ _ _ => is rfl⟩, ⟨short rfl, fun _ => is rfl⟩, ⟨short rfl, fun _ _ _ _ _ => is rfl⟩,
      ⟨short rfl, fun _ => is rfl⟩, ⟨short rfl, fun _ _ _ _ _ => is rfl⟩, ⟨short rfl, fun _ => is rfl⟩,
      ⟨short rfl, fun _ _ => is rfl⟩, is rfl, short rfl, ?_⟩
    intro a b c n items fit
    have stops (hn : items.length < n.toNat) (more : List Byte) (h : readItem more = .unknown) :
        read 1 (a :: b :: c :: n :: (items.flatMap encodeItem ++ more))
          (.recipeLoad a.toNat (readWord b c) n.toNat (items.map LoadItem.known ++ [LoadItem.unknown])) :=
      readRequest_some (by rw [readOperands_load, readItems_unknown fit hn h]; rfl)
    refine ⟨fun hn => readRequest_some ?_, fun hn => ⟨fun i part _ hpre hne => readRequest_none ?_,
      fun k hk => stops hn _ (readItem_kind_unknown hk rest), fun f hf hl => stops hn _ (readItem_form_unknown hf hl)⟩⟩
    · rw [readOperands_load, readItems_all fit hn]; rfl
    · rw [readOperands_load, readItems_short fit hn (readItem_prefix hpre hne)]; rfl
  · intro n b least byte word coord
    have least_eq : least = statusLen n := by cases n <;> rfl
    have word_eq (i : Nat) : wordAt b i = word i := readWord_eq _ _
    have coord_eq (i : Nat) : coordAt b i = coord i := by
      rw [coordAt, readCoord, readLong_eq, readWord_eq, readWord_eq]
    have pt_eq (i : Nat) : ptAt b i = ⟨coord i, coord (i + 4)⟩ := by rw [ptAt, coord_eq, coord_eq]
    rw [least_eq]
    refine ⟨fun h => if_pos h, fun h => ⟨_, readStatus_long h, ?_, rfl, rfl, rfl, word_eq 4,
      fun _ => ⟨coord_eq 6, word_eq 10, congrArg (min 4095) (word_eq 12)⟩, fun _ => ⟨rfl, pt_eq 7, pt_eq 15, pt_eq 23⟩⟩⟩
    show ((b.getD 0 0 != 0) = false) ↔ (b.getD 0 0).toNat = 0
    rw [bne_eq_false_iff_eq, BitVec.toNat_eq]; rfl

end Sys2Proof.Machine
end

section
/-! CELL_RESET (R189), block by block: what each block's part leaves, written out once. -/

namespace Sys2Proof.Machine

/-! ### The heads (R97) -/

/-- What CELL_RESET does to a head's record: a CUTTING head is stopped with cause RESET, the ordered tab is cleared and the queue
emptied (R97). -/
def HeadRec.onReset (r : HeadRec) : HeadRec :=
  { r with
    state := if r.state = .cutting then .stopping else r.state
    cause := if r.state = .cutting then some .reset else r.cause, tab := none, queue := [] }

/-- What CELL_RESET does to a head's order slot: a CUTTING head is sent STOP (R97). -/
def State.slotOnReset (s : State) (h : Head) : NodeRec :=
  if (s.head h).state = .cutting then (s.node h.node).write .stop (s.param .takeTimeout) else s.node h.node

/-- A head's part of CELL_RESET: its record and its order slot (R97). -/
theorem resetHead_eq (h : Head) (s : State) :
    resetHead h s = (s.setNode h.node (s.slotOnReset h)).setHead h (s.head h).onReset := by
  unfold resetHead stopHead State.slotOnReset HeadRec.onReset
  by_cases hc : (s.head h).state = .cutting
  · simp only [if_pos hc, State.modHead, State.setHead_head]
    cases h <;> rfl
  · simp only [if_neg hc]
    cases h <;> rfl

/-- The cut dispatcher's part of CELL_RESET (R97); either head may lead. -/
theorem resetDispatcher_eq (s : State) : resetDispatcher s = { s with
    disp := { s.disp with
      tabs := [], closingTabs := [], unassigned := [], heads := ⟨(s.head .a).onReset, (s.head .b).onReset⟩ }
    ring := { s.ring with nodes := { s.ring.nodes with headA := s.slotOnReset .a, headB := s.slotOnReset .b } } } := by
  unfold resetDispatcher State.follow
  cases s.lead <;> rw [resetHead_eq, resetHead_eq] <;> rfl

/-- No head cuts once the dispatcher has been reset (R97). -/
theorem HeadRec.onReset_not_cutting (r : HeadRec) : r.onReset.state ≠ .cutting := by
  show (if r.state = .cutting then HeadState.stopping else r.state) ≠ .cutting
  split
  · decide
  · assumption

/-- A hold cause added where no head cuts changes the cause set alone (R155). -/
theorem addCause_of_no_cut (f : Causes → Causes) {s : State} (h : ∀ k, (s.head k).state ≠ .cutting) :
    addCause f s = { s with lines := { s.lines with causes := f s.lines.causes } } := by
  have idle (k : Head) : stopHead k .hold { s with lines := { s.lines with causes := f s.lines.causes } } =
      { s with lines := { s.lines with causes := f s.lines.causes } } := if_neg (h k)
  simp only [addCause, stopHeads, idle, ite_self]

/-! ### The handover unit and the locator (R148, R29) -/

/-- The handover unit's part of CELL_RESET, its order slots included (R148). -/
theorem resetHandover_eq (s : State) : resetHandover s = { s with
    ring := { s.ring with nodes := { s.ring.nodes with
      picker := (s.node .picker).write .none (s.param .takeTimeout)
      elevator := (s.node .elevator).write .none (s.param .takeTimeout) } }
    hand := { s.hand with
      picker := { state := if s.hand.picker.state = .serving then .idle else s.hand.picker.state,
                  reason := s.hand.picker.reason, order := none, timer := none, retractDue := false }
      elevator := { state := if s.hand.elevator.state = .indexing then .idle else s.hand.elevator.state,
                    reason := s.hand.elevator.reason, order := none, timer := none }
      service := none, lanes := s.hand.lanes.map Lane.resetReserved, binReserved := 0 } } := rfl

/-- A lane at CELL_RESET: RESERVED slots become SUSPECT and are counted, and it is FULL where it was ACTIVE and no EMPTY slot is
left (R148). -/
theorem Lane.resetReserved_eq (l : Lane) : l.resetReserved =
    if SlotState.reserved ∈ l.slots then
      { l with
        slots := l.slots.map fun x => if x = .reserved then .suspect else x
        suspect := l.suspect + l.slots.count .reserved
        state := if l.state = .active ∧ SlotState.empty ∉ l.slots then .full else l.state }
    else l := by
  have has (st : SlotState) (l : Lane) : l.has st = true ↔ st ∈ l.slots := by simp [Lane.has]
  have none_reserved : SlotState.reserved ∉ l.slots.map fun x => if x = .reserved then .suspect else x := by
    intro h
    obtain ⟨x, _, hx⟩ := List.mem_map.1 h
    split at hx <;> contradiction
  have empty_kept : (SlotState.empty ∈ l.slots.map fun x => if x = .reserved then .suspect else x) ↔ .empty ∈ l.slots := by
    refine ⟨fun h => ?_, fun h => List.mem_map.2 ⟨_, h, rfl⟩⟩
    obtain ⟨x, hm, hx⟩ := List.mem_map.1 h
    split at hx
    · contradiction
    · exact hx ▸ hm
  unfold Lane.resetReserved Lane.testFull
  simp only [← Bool.not_eq_true, has, none_reserved, empty_kept, not_false_eq_true, and_true]
  split
  · split <;> rfl
  · rfl

/-- The locator's part of CELL_RESET (R29). -/
theorem resetLocator_eq (s : State) : resetLocator s = { s with
    locator := ⟨LocRec.free, LocRec.free⟩
    ring := { s.ring with nodes := { s.ring.nodes with
      vision := if s.locator.active.state = .measuring then (s.node .vision).write .none (s.param .takeTimeout)
        else s.node .vision } } } := by
  unfold resetLocator State.loc
  by_cases h : s.locator.active.state = .measuring
  · simp only [if_pos h]; rfl
  · simp only [if_neg h]; rfl

/-! ### The recipe store (R16) -/

/-- A validation that CELL_RESET ends (R16). -/
def RecipeSlot.inCheck (r : RecipeSlot) : Bool := r.mode == .validating && r.validation.isSome

/-- A slot after CELL_RESET: a validation ends, and the slot is LOADING (R16). -/
def RecipeSlot.onReset (r : RecipeSlot) : RecipeSlot := if r.inCheck then { r with mode := .loading, validation := none } else r

/-- A slot without a validation stays as it is (R16). -/
theorem resetSlot_stays {s : State} {i : Nat} {r : RecipeSlot} (h : s.recipes.slots[i]? = some r)
    (hv : r.inCheck = false) : resetSlot s i = s := by
  unfold resetSlot State.slotRec
  rw [h]
  cases e : r.validation <;> simp_all [RecipeSlot.inCheck]

/-- A slot's validation ends: the slot is LOADING, and its commit is answered BAD_STATE on the reserved place (R16). -/
theorem resetSlot_ends {s : State} {i : Nat} {r : RecipeSlot} {v : Validation} (h : s.recipes.slots[i]? = some r)
    (hm : r.mode = .validating) (hv : r.validation = some v) :
    resetSlot s i = replyReserved { dest := v.src, tag := v.tag, kind := 2, code := .badState, data := [] }
      (s.modSlot i fun r => { r with mode := .loading, validation := none }) := by
  simp [resetSlot, State.slotRec, h, hv, hm]

/-- The BAD_STATE replies to the commits of the validations that CELL_RESET ends (R16). -/
def resetReplies (l : List RecipeSlot) : List Reply :=
  (l.filter RecipeSlot.inCheck).filterMap fun r => r.validation.map fun v =>
    { dest := v.src, tag := v.tag, kind := 2, code := .badState, data := [] }

/-- The recipe store's part of CELL_RESET once the first n slots are reset. -/
def State.resetSlots (s : State) (n : Nat) : State :=
  { s with
    recipes := { s.recipes with slots := (s.recipes.slots.take n).map RecipeSlot.onReset ++ s.recipes.slots.drop n }
    req := { s.req with
      reserved := s.req.reserved - ((s.recipes.slots.take n).filter RecipeSlot.inCheck).length
      replies := s.req.replies ++ resetReplies (s.recipes.slots.take n) } }

/-- One more slot reset. -/
theorem resetSlot_resetSlots (s : State) {n : Nat} (h : n < s.recipes.slots.length) :
    resetSlot (s.resetSlots n) n = s.resetSlots (n + 1) := by
  set r := s.recipes.slots[n] with hr
  have taken : s.recipes.slots.take (n + 1) = s.recipes.slots.take n ++ [r] := by simp [hr]
  have dropped : s.recipes.slots.drop n = r :: s.recipes.slots.drop (n + 1) := List.drop_eq_getElem_cons h
  have len : ((s.recipes.slots.take n).map RecipeSlot.onReset).length = n := by simp; omega
  have slots : (s.resetSlots n).recipes.slots =
      (s.recipes.slots.take n).map RecipeSlot.onReset ++ r :: s.recipes.slots.drop (n + 1) := by
    rw [← dropped]; rfl
  have found : (s.resetSlots n).recipes.slots[n]? = some r := by
    rw [slots, List.getElem?_append_right len.le, len, Nat.sub_self]; rfl
  have written (u : RecipeSlot) : (s.resetSlots n).recipes.slots.set n u =
      (s.recipes.slots.take n).map RecipeSlot.onReset ++ u :: s.recipes.slots.drop (n + 1) := by
    rw [slots, List.set_append_right _ _ len.le, len, Nat.sub_self]; rfl
  have next : s.resetSlots (n + 1) = { s with
      recipes := { s.recipes with
        slots := (s.recipes.slots.take n).map RecipeSlot.onReset ++ r.onReset :: s.recipes.slots.drop (n + 1) }
      req := { s.req with
        reserved := s.req.reserved - ((s.recipes.slots.take n).filter RecipeSlot.inCheck).length -
          ([r].filter RecipeSlot.inCheck).length
        replies := s.req.replies ++ resetReplies (s.recipes.slots.take n) ++ resetReplies [r] } } := by
    simp [State.resetSlots, resetReplies, taken, Nat.sub_sub]
  rw [next]
  cases hv : r.inCheck with
  | false =>
    have stays : r.onReset = r := if_neg (by simp [hv])
    rw [resetSlot_stays found hv, stays, ← dropped]
    simp [State.resetSlots, resetReplies, hv]
  | true =>
    obtain ⟨hm, v, hv'⟩ : r.mode = .validating ∧ ∃ v, r.validation = some v := by
      simpa [RecipeSlot.inCheck, Option.isSome_iff_exists] using hv
    have ends : r.onReset = { r with mode := .loading, validation := none } := if_pos hv
    rw [resetSlot_ends found hm hv', State.modSlot_eq_set found, written, ends]
    simp [replyReserved, pushReply, State.resetSlots, resetReplies, hv, hv']

/-- The recipe store's part of CELL_RESET: its eight slots, one after another (R16). -/
theorem resetRecipes_eq {s : State} (h : s.recipes.slots.length = 8) : resetRecipes s = { s with
    recipes := { s.recipes with slots := s.recipes.slots.map RecipeSlot.onReset }
    req := { s.req with
      reserved := s.req.reserved - (s.recipes.slots.filter RecipeSlot.inCheck).length
      replies := s.req.replies ++ resetReplies s.recipes.slots } } := by
  have run (n : Nat) (hn : n ≤ s.recipes.slots.length) : (List.range n).foldl resetSlot s = s.resetSlots n := by
    induction n with
    | zero => simp [State.resetSlots, resetReplies]
    | succ n ih =>
      rw [List.range_succ, List.foldl_append, ih (by omega)]
      exact resetSlot_resetSlots s hn
  rw [resetRecipes, run 8 h.ge, State.resetSlots, ← h]
  simp

/-! ### The whole of CELL_RESET (R189) -/

/-- What the blocks' parts of CELL_RESET leave, one after another; none touches what another left. -/
theorem resetBlocks_eq {s : State} (h : s.recipes.slots.length = 8) :
    resetRecipes (resetTracker (resetLocator (resetHandover (resetDispatcher s)))) = { s with
      ring := { s.ring with nodes :=
        { headA := s.slotOnReset .a, headB := s.slotOnReset .b
          picker := (s.node .picker).write .none (s.param .takeTimeout)
          elevator := (s.node .elevator).write .none (s.param .takeTimeout)
          vision := if s.locator.active.state = .measuring then (s.node .vision).write .none (s.param .takeTimeout)
            else s.node .vision } }
      req := { s.req with
        reserved := s.req.reserved - (s.recipes.slots.filter RecipeSlot.inCheck).length
        replies := s.req.replies ++ resetReplies s.recipes.slots }
      recipes := { s.recipes with slots := s.recipes.slots.map RecipeSlot.onReset }
      locator := ⟨LocRec.free, LocRec.free⟩
      tracker := { s.tracker with
        announce := [], active := none, closing := none, half0 := [], half1 := [], pickQueue := [] }
      disp := { s.disp with
        tabs := [], closingTabs := [], unassigned := [], heads := ⟨(s.head .a).onReset, (s.head .b).onReset⟩ }
      hand := { s.hand with
        picker := { state := if s.hand.picker.state = .serving then .idle else s.hand.picker.state,
                    reason := s.hand.picker.reason, order := none, timer := none, retractDue := false }
        elevator := { state := if s.hand.elevator.state = .indexing then .idle else s.hand.elevator.state,
                      reason := s.hand.elevator.reason, order := none, timer := none }
        service := none, lanes := s.hand.lanes.map Lane.resetReserved, binReserved := 0 } } := by
  have keeps : (resetTracker (resetLocator (resetHandover (resetDispatcher s)))).recipes = s.recipes := by
    rw [resetDispatcher_eq, resetHandover_eq, resetLocator_eq]; rfl
  rw [resetRecipes_eq (by rw [keeps]; exact h), resetDispatcher_eq, resetHandover_eq, resetLocator_eq]
  rfl

/-- CELL_RESET: REQUEST is added once no head cuts, and so stops none; the pending notices are cleared (R189). -/
theorem doCellReset_eq {s : State} (h : s.recipes.slots.length = 8) :
    doCellReset s = accepted (clearMarks (clearNotices
      (let t := resetRecipes (resetTracker (resetLocator (resetHandover (resetDispatcher s))))
       { t with lines := { t.lines with causes := t.lines.causes.withRequest } }))) := by
  have no_cut (k : Head) :
      ((resetRecipes (resetTracker (resetLocator (resetHandover (resetDispatcher s))))).head k).state ≠ .cutting := by
    rw [resetBlocks_eq h]
    cases k <;> exact HeadRec.onReset_not_cutting _
  exact congrArg (fun t => accepted (clearMarks (clearNotices t))) (addCause_of_no_cut Causes.withRequest no_cut)

/-- Settles O26: each block's part as its lemma gives it. -/
theorem cellResetFreesWork : Obligations.CellResetFreesWork := by
  unfold Obligations.CellResetFreesWork
  intro src tag s hs hl take ending ended lane head slot
  have lanes : s.hand.lanes.map Lane.resetReserved = s.hand.lanes.map lane :=
    List.map_congr_left fun l _ => l.resetReserved_eq
  have acts := doCellReset_eq hl
  rw [resetBlocks_eq hl, lanes] at acts
  exact ⟨_, exec_accepted (r := ⟨src, tag, .cellReset⟩) rfl hs acts, rfl, rfl, rfl, rfl, rfl, rfl, rfl, rfl, rfl, rfl, rfl,
    rfl⟩

end Sys2Proof.Machine
end

section
/-! What a validation without an error says of a recipe (R4 to R7, R12 to R14): an induction over the walk's visits, once for its
path over the OPENs and CLOSEs and once for its tables. -/

namespace Sys2Proof.Machine

/-! ### The walk as an induction -/

/-- What every visit keeps holds at the end of a walk, which stands behind the last item with an empty stack (R4). -/
theorem walk_whole_induction {items : List (Option Item)} {P : Walk → Prop}
    (step : ∀ w w', w.pos < items.length → P w → visit items w = .go w' → P w') {fuel : Nat} {w w' : Walk}
    (hw : P w) (h : walk items fuel w = .whole w') : P w' ∧ items.length ≤ w'.pos ∧ w'.stack = [] := by
  induction fuel generalizing w with
  | zero => cases h
  | succ fuel ih =>
    unfold walk at h
    split at h
    · next hend =>
      split at h
      · next hs => cases h; exact ⟨hw, hend, hs⟩
      · cases h
    · next hpos =>
      split at h
      · next v hv => exact ih (step _ _ (by omega) hw hv) h
      · cases h

/-! ### Depth -/

/-- An OPEN. -/
def isOpen : Option Item → Bool
  | some (.opn _ _ _) => true
  | _ => false

/-- The OPENs below an offset less the CLOSEs below it. -/
def depthAt (items : List (Option Item)) (k : Nat) : Int :=
  ((items.take k).countP isOpen : Int) - ((items.take k).count (some .cls) : Int)

theorem depthAt_zero (items : List (Option Item)) : depthAt items 0 = 0 := rfl

/-- Behind the last item the depth no longer changes. -/
theorem depthAt_of_length_le {items : List (Option Item)} {k : Nat} (h : items.length ≤ k) :
    depthAt items k = depthAt items items.length := by
  simp [depthAt, List.take_of_length_le h]

section
variable {items : List (Option Item)} {k : Nat}

theorem depthAt_succ {it : Option Item} (h : items[k]? = some it) : depthAt items (k + 1) =
    depthAt items k + (if isOpen it then 1 else 0) - (if it = some .cls then 1 else 0) := by
  have one : (([it] : List (Option Item)).countP isOpen : Int) = if isOpen it then 1 else 0 := by
    simp [List.countP_singleton]
  have two : (([it] : List (Option Item)).count (some .cls) : Int) = if it = some .cls then 1 else 0 := by
    simp [List.count_singleton]
  simp only [depthAt, List.take_add_one, h, Option.toList_some, List.countP_append, List.count_append, Nat.cast_add, one, two]
  ring

theorem depthAt_open {c : Nat} {dx dy : Int} (h : items[k]? = some (some (.opn c dx dy))) :
    depthAt items (k + 1) = depthAt items k + 1 := by rw [depthAt_succ h]; simp [isOpen]

theorem depthAt_close (h : items[k]? = some (some .cls)) : depthAt items (k + 1) = depthAt items k - 1 := by
  rw [depthAt_succ h]; simp [isOpen]

theorem depthAt_other {it : Option Item} (h : items[k]? = some it) (ho : isOpen it = false) (hc : it ≠ some .cls) :
    depthAt items (k + 1) = depthAt items k := by rw [depthAt_succ h]; simp [ho, hc]

end

/-- The CLOSE that matches an OPEN is where the depth first falls back to the OPEN's own (R4). -/
theorem matchClose_depth {items : List (Option Item)} {i d c : Nat} (hd : 0 < d)
    (h : matchClose i d (items.drop i) = some c) :
    i ≤ c ∧ depthAt items (c + 1) = depthAt items i - d ∧
      ∀ k, i ≤ k → k ≤ c → depthAt items i - d < depthAt items k := by
  induction hl : items.drop i generalizing i d with
  | nil => rw [hl] at h; cases h
  | cons it rest ih =>
    have at_i : items[i]? = some it := by
      rw [← List.head?_drop, hl]; rfl
    have rest_eq : items.drop (i + 1) = rest := by rw [← List.tail_drop, hl]; rfl
    /- Reading on behind this item, which moves the depth from `depthAt items i` to `depthAt items (i + 1)`. -/
    have onward {e : Nat} (he : 0 < e) (hm : matchClose (i + 1) e rest = some c)
        (step : depthAt items (i + 1) - e = depthAt items i - d) :
        i ≤ c ∧ depthAt items (c + 1) = depthAt items i - d ∧
          ∀ k, i ≤ k → k ≤ c → depthAt items i - d < depthAt items k := by
      obtain ⟨hic, last, inner⟩ := ih he (rest_eq ▸ hm) rest_eq
      refine ⟨by omega, by omega, fun k hik hkc => ?_⟩
      rcases Nat.eq_or_lt_of_le hik with he | hlt
      · rw [← he]; omega
      · have := inner k hlt hkc; omega
    rw [hl] at h
    unfold matchClose at h
    split at h
    · have := depthAt_open at_i
      exact onward (by omega) h (by push_cast; omega)
    · have hc := depthAt_close at_i
      split at h
      · next hd1 =>
        cases h
        subst hd1
        refine ⟨le_rfl, by omega, fun k hik hkc => ?_⟩
        rw [le_antisymm hkc hik]; omega
      · exact onward (by omega) h (by omega)
    · next not_open not_close =>
      have hi : isOpen it = false := by
        unfold isOpen; split
        · exact absurd rfl (not_open _ _ _)
        · rfl
      have := depthAt_other at_i hi not_close
      exact onward hd h (by omega)

/-! ### The path of a walk -/

/-- What one visit does to the offset in hand and to the offsets of the OPENs on the stack (R4). -/
inductive Moves (items : List (Option Item)) (pos : Nat) : List Nat → Nat → List Nat → Prop
  | next {it : Option Item} {l : List Nat} (at_pos : items[pos]? = some it) (not_open : isOpen it = false)
      (not_close : it ≠ some .cls) : Moves items pos l (pos + 1) l
  | opened {c : Nat} {dx dy : Int} {l : List Nat} (at_pos : items[pos]? = some (some (.opn c dx dy)))
      (room : l.length < 4) : Moves items pos l (pos + 1) (pos :: l)
  | again {o : Nat} {l : List Nat} : Moves items pos (o :: l) (o + 1) (o :: l)
  | closed {o : Nat} {l : List Nat} (at_pos : items[pos]? = some (some .cls)) : Moves items pos (o :: l) (pos + 1) l
  | exited {n o c : Nat} {l : List Nat} (at_pos : items[pos]? = some (some (.exitAfter n)))
      (matched : matchClose (o + 1) 1 (items.drop (o + 1)) = some c) : Moves items pos (o :: l) (c + 1) l

/-- The offsets of the OPENs on the stack, top first. -/
def Walk.opens (w : Walk) : List Nat := w.stack.map WFrame.offset

theorem markMade_offsets (l : List WFrame) : (markMade l).map WFrame.offset = l.map WFrame.offset := by
  simp [markMade]

/-- A BOARD visited without an error: there is room for it, its grip point lies in the recipe space, and it joins the boards
(R5, R13). -/
theorem visitBoard_go {w w' : Walk} {v : Nat} {d g : Pt} (h : visitBoard w v d g = .go w') :
    w.boards.length < 96 ∧ ((w.origin.add d).add g).absOk = true ∧
      w' = { w with
        pos := w.pos + 1, stack := markMade w.stack
        boards := w.boards ++ [{ variant := v, grip := (w.origin.add d).add g, tabs := 0, release := none }] } := by
  unfold visitBoard at h
  simp only at h
  split at h
  · cases h
  · next hroom =>
    split at h
    · cases h
    · next hin =>
      cases h
      simp only [Bool.and_eq_false_iff, not_or, Bool.not_eq_false] at hin
      exact ⟨by omega, hin.2, rfl⟩

/-- The board list once a tab has joined its board, and the board it links to (R6). -/
def joinTab (shared : Bool) (own other i : Nat) (l : List WBoard) : List WBoard :=
  let l := l.modify own (WBoard.join (if shared then none else some i))
  if shared then l.modify other (WBoard.join none) else l

/-- A TAB visited without an error: each check of R6 and R13 has passed, and it joins the tabs and its boards. -/
theorem visitTab_go {w w' : Walk} {k : TabKind} {o : Orient} {d : Pt} {len feed link : Nat}
    (h : visitTab w k o d len feed link = .go w') :
    let own := w.boards.length - 1
    let other := own - link
    let shared := k == .shared
    let start := cutStart o len (w.origin.add d)
    let stop := cutEnd o len (w.origin.add d)
    w.boards.length ≠ 0 ∧ w.tabs.length < 384 ∧ (shared = true → link ≤ own) ∧ start.absOk = true ∧ stop.absOk = true ∧
      fullBoard w.boards own = false ∧ (shared = true → fullBoard w.boards other = false) ∧
      w' = { w with
        pos := w.pos + 1, stack := markMade w.stack, boards := joinTab shared own other w.tabs.length w.boards
        tabs := w.tabs ++ [{ kind := k, owner := own, linked := if shared then some other else none, start := start,
                             stop := stop, len := len, feed := feed }] } := by
  intro own other shared start stop
  unfold visitTab at h
  simp only at h
  split at h
  · cases h
  next has_board =>
  split at h
  · cases h
  next room =>
  split at h
  · cases h
  next linked =>
  split at h
  · cases h
  next inside =>
  split at h
  · cases h
  next not_full =>
  cases h
  simp only [Bool.and_eq_false_iff, not_or, Bool.not_eq_false] at inside
  simp only [not_or, not_and, Bool.not_eq_true] at not_full
  exact ⟨has_board, by omega, fun hs => Nat.not_lt.1 fun hl => linked ⟨hs, hl⟩, inside.1, inside.2, not_full.1, not_full.2,
    rfl⟩

/-- A visit without an error moves along the path (R4). -/
theorem visit_moves {items : List (Option Item)} {w w' : Walk} (hpos : w.pos < items.length)
    (h : visit items w = .go w') : Moves items w.pos w.opens w'.pos w'.opens := by
  obtain ⟨it, at_pos⟩ : ∃ it, items[w.pos]? = some it := ⟨_, List.getElem?_eq_getElem hpos⟩
  have made {it : Option Item} (h : items[w.pos]? = some it) (ho : isOpen it = false) (hc : it ≠ some .cls) :
      Moves items w.pos w.opens (w.pos + 1) ((markMade w.stack).map WFrame.offset) := by
    rw [markMade_offsets]; exact .next h ho hc
  unfold visit at h
  rw [at_pos] at h
  cases it with
  | none => cases h; exact .next at_pos rfl (by simp)
  | some i =>
    cases i with
    | fiducial i x y =>
      simp only at h
      split at h
      · cases h; exact .next at_pos rfl (by simp)
      · cases h
    | board v dx dy gx gy =>
      obtain ⟨-, -, rfl⟩ := visitBoard_go h
      exact made at_pos rfl (by simp)
    | tab k o dx dy l f d =>
      obtain ⟨-, -, -, -, -, -, -, rfl⟩ := visitTab_go h
      exact made at_pos rfl (by simp)
    | opn c dx dy =>
      simp only at h
      split at h
      · cases h
      · next room => cases h; exact .opened at_pos (by rw [Walk.opens, List.length_map]; omega)
    | cls =>
      simp only [visitClose] at h
      split at h
      · cases h
      · next f rest hs =>
        have opens : w.opens = f.offset :: rest.map WFrame.offset := by rw [Walk.opens, hs]; rfl
        rw [opens]
        split at h
        · cases h; exact .again
        · cases h; exact .closed at_pos
    | exitAfter n =>
      simp only [visitExit] at h
      split at h
      · cases h
      · next f rest hs =>
        split at h
        · split at h
          · next c hc =>
            cases h
            rw [Walk.opens, hs]; exact .exited at_pos hc
          · cases h
        · cases h; exact .next at_pos rfl (by simp)

/-! ### OPENs and CLOSEs along the path -/

/-- The offsets on the stack, top first, are the OPENs that stand open at an offset: below each the depth is that of the frames
beneath it, and from each on the depth has stayed above that. -/
def OpenAt (items : List (Option Item)) : List Nat → Nat → Prop
  | [], pos => depthAt items pos = 0 ∧ ∀ k, k ≤ pos → 0 ≤ depthAt items k
  | o :: rest, pos =>
    o < pos ∧ OpenAt items rest o ∧ depthAt items (o + 1) = rest.length + 1 ∧ depthAt items pos = rest.length + 1 ∧
      ∀ k, o < k → k ≤ pos → (rest.length + 1 : Int) ≤ depthAt items k

section
variable {items : List (Option Item)}

/-- The depth at an offset is the number of frames on the stack. -/
theorem OpenAt.depth {l : List Nat} {pos : Nat} (h : OpenAt items l pos) : depthAt items pos = l.length := by
  cases l with
  | nil => exact h.1
  | cons o rest => obtain ⟨-, -, -, hd, -⟩ := h; rw [hd]; push_cast [List.length_cons]; rfl

/-- No initial stretch of items that the walk reached has more CLOSEs than OPENs. -/
theorem OpenAt.nonneg {l : List Nat} {pos : Nat} (h : OpenAt items l pos) {k : Nat} (hk : k ≤ pos) :
    0 ≤ depthAt items k := by
  induction l generalizing pos with
  | nil => exact h.2 k hk
  | cons o rest ih =>
    obtain ⟨-, below, -, -, inside⟩ := h
    by_cases hko : k ≤ o
    · exact ih below hko
    · have := inside k (by omega) hk; omega

/-- Going on to a later offset where the depth has not fallen below the frames on the stack. -/
theorem OpenAt.advance {l : List Nat} {pos pos' : Nat} (h : OpenAt items l pos) (hlt : pos ≤ pos')
    (hd : depthAt items pos' = l.length) (hk : ∀ k, pos < k → k ≤ pos' → (l.length : Int) ≤ depthAt items k) :
    OpenAt items l pos' := by
  cases l with
  | nil =>
    refine ⟨hd, fun k hkp => ?_⟩
    by_cases hkl : k ≤ pos
    · exact h.2 k hkl
    · exact hk k (by omega) hkp
  | cons o rest =>
    obtain ⟨ho, below, first, -, inside⟩ := h
    push_cast [List.length_cons] at hd hk
    refine ⟨by omega, below, first, hd, fun k hok hkp => ?_⟩
    by_cases hkl : k ≤ pos
    · exact inside k hok hkl
    · exact hk k (by omega) hkp

/-- The way back to the first offset behind an OPEN that stands open. -/
theorem OpenAt.back {o : Nat} {l : List Nat} {pos : Nat} (h : OpenAt items (o :: l) pos) : OpenAt items (o :: l) (o + 1) := by
  obtain ⟨-, below, first, -, -⟩ := h
  refine ⟨by omega, below, first, first, fun k hok hko => ?_⟩
  obtain rfl : k = o + 1 := by omega
  omega

/-- Each move keeps the stack the list of the OPENs that stand open. -/
theorem Moves.openAt {pos pos' : Nat} {l l' : List Nat} (m : Moves items pos l pos' l') (h : OpenAt items l pos) :
    OpenAt items l' pos' := by
  cases m with
  | next at_pos not_open not_close =>
    have step := depthAt_other at_pos not_open not_close
    rw [h.depth] at step
    refine h.advance (by omega) step fun k _ _ => ?_
    obtain rfl : k = pos + 1 := by omega
    omega
  | opened at_pos room =>
    have step := depthAt_open at_pos
    rw [h.depth] at step
    refine ⟨by omega, h, step, step, fun k _ _ => ?_⟩
    obtain rfl : k = pos + 1 := by omega
    omega
  | again => exact h.back
  | closed at_pos =>
    have step := depthAt_close at_pos
    obtain ⟨ho, below, first, hd, inside⟩ := h
    refine below.advance (by omega) (by omega) fun k hok hkp => ?_
    by_cases hkl : k ≤ pos
    · have := inside k hok hkl; omega
    · obtain rfl : k = pos + 1 := by omega
      omega
  | @exited n o c l at_pos matched =>
    obtain ⟨ho, below, first, hd, inside⟩ := h
    obtain ⟨hoc, last, inner⟩ := matchClose_depth Nat.one_pos matched
    refine below.advance (by omega) (by omega) fun k hok hkc => ?_
    by_cases hkl : k ≤ c
    · have := inner k hok hkl; omega
    · obtain rfl : k = c + 1 := by omega
      omega

/-- With no EXIT_AFTER, which alone passes items over, the depth has never been above 4 (R4, R13). -/
theorem Moves.depth_le {pos pos' : Nat} {l l' : List Nat} (m : Moves items pos l pos' l')
    (no_exit : ∀ n, some (.exitAfter n) ∉ items) (h : OpenAt items l pos) (h4 : ∀ k, k ≤ pos → depthAt items k ≤ 4) :
    ∀ k, k ≤ pos' → depthAt items k ≤ 4 := by
  have next (hs : depthAt items (pos + 1) ≤ 4) : ∀ k, k ≤ pos + 1 → depthAt items k ≤ 4 := fun k hk => by
    rcases Nat.le_succ_iff.1 hk with hk | rfl
    · exact h4 k hk
    · exact hs
  cases m with
  | next at_pos not_open not_close => exact next ((depthAt_other at_pos not_open not_close).trans_le (h4 pos le_rfl))
  | opened at_pos room => exact next (by rw [depthAt_open at_pos, h.depth]; omega)
  | again =>
    obtain ⟨ho, -⟩ := h
    exact fun k hk => h4 k (by omega)
  | closed at_pos =>
    have := h4 pos le_rfl
    exact next (by rw [depthAt_close at_pos]; omega)
  | exited at_pos matched => exact absurd (List.mem_of_getElem? at_pos) (no_exit _)

/-- Nothing stands open where a walk begins. -/
theorem openAt_begin : OpenAt items Walk.begin.opens Walk.begin.pos :=
  ⟨rfl, fun k hk => by rw [Nat.le_zero.1 hk]; exact le_rfl⟩

/-- Along a whole walk no initial stretch of items has more CLOSEs than OPENs, and the whole has as many of each (R4, R13). -/
theorem walk_balanced {fuel : Nat} {w : Walk} (h : walk items fuel Walk.begin = .whole w) :
    w.stack = [] ∧ depthAt items items.length = 0 ∧ ∀ k, 0 ≤ depthAt items k := by
  obtain ⟨path, hend, hs⟩ := walk_whole_induction (P := fun w => OpenAt items w.opens w.pos)
    (fun _ _ hpos hw hv => (visit_moves hpos hv).openAt hw)
    openAt_begin h
  have hd := path.depth
  rw [depthAt_of_length_le hend, Walk.opens, hs] at hd
  refine ⟨hs, hd, fun k => ?_⟩
  by_cases hk : k ≤ w.pos
  · exact path.nonneg hk
  · rw [depthAt_of_length_le (by omega), hd]; rfl

/-- A whole walk over a program without EXIT_AFTER is never more than 4 OPENs deep (R4, R13). -/
theorem walk_depth_le {fuel : Nat} {w : Walk} (no_exit : ∀ n, some (.exitAfter n) ∉ items)
    (h : walk items fuel Walk.begin = .whole w) (k : Nat) : depthAt items k ≤ 4 := by
  obtain ⟨⟨-, path⟩, hend, -⟩ := walk_whole_induction
    (P := fun w => OpenAt items w.opens w.pos ∧ ∀ k, k ≤ w.pos → depthAt items k ≤ 4)
    (fun _ _ hpos hw hv => ⟨(visit_moves hpos hv).openAt hw.1, (visit_moves hpos hv).depth_le no_exit hw.1 hw.2⟩)
    ⟨openAt_begin, fun k hk => by rw [Nat.le_zero.1 hk, depthAt_zero]; decide⟩ h
  by_cases hk : k ≤ w.pos
  · exact path k hk
  · rw [depthAt_of_length_le (by omega), (walk_balanced h).2.1]; decide

end

/-! ### The tables of a walk -/

/-- The boards and tabs of a walk are within their limits and inside the recipe space, and every tab names boards produced
before it (R5, R6, R13). -/
def Walk.withinLimits (w : Walk) : Prop :=
  w.boards.length ≤ 96 ∧ w.tabs.length ≤ 384 ∧ (∀ b ∈ w.boards, b.tabs ≤ 12 ∧ b.grip.absOk = true) ∧
    ∀ t ∈ w.tabs, t.start.absOk = true ∧ t.stop.absOk = true ∧ t.owner < w.boards.length ∧
      ∀ o, t.linked = some o → o < t.owner

/-- What a visit without an error does to the tables: nothing, or it is the visit of a BOARD or of a TAB (R4). -/
theorem visit_tables {items : List (Option Item)} {w w' : Walk} (h : visit items w = .go w') :
    (w'.boards = w.boards ∧ w'.tabs = w.tabs) ∨ (∃ v d g, visitBoard w v d g = .go w') ∨
      ∃ k o dx dy len feed link, some (.tab k o dx dy len feed link) ∈ items ∧
        visitTab w k o ⟨dx, dy⟩ len feed link = .go w' := by
  unfold visit at h
  split at h
  · next i at_pos =>
    split at h
    case h_2 => exact .inr (.inl ⟨_, _, _, h⟩)
    case h_3 => exact .inr (.inr ⟨_, _, _, _, _, _, _, List.mem_of_getElem? at_pos, h⟩)
    all_goals
      left
      first | unfold visitClose at h | unfold visitExit at h | skip
      repeat' split at h
      all_goals cases h <;> exact ⟨rfl, rfl⟩
  · cases h; exact .inl ⟨rfl, rfl⟩

/-- A board with room for a tab stays within its limits when a tab joins it (R6). -/
theorem join_withinLimits {l : List WBoard} (h : ∀ b ∈ l, b.tabs ≤ 12 ∧ b.grip.absOk = true) {i : Nat}
    (room : fullBoard l i = false) (release : Option Nat) :
    ∀ b ∈ l.modify i (WBoard.join release), b.tabs ≤ 12 ∧ b.grip.absOk = true := by
  intro b hb
  obtain ⟨j, hj⟩ := List.getElem?_of_mem hb
  rw [List.getElem?_modify] at hj
  split at hj
  · next hij =>
    subst hij
    obtain ⟨c, hc, rfl⟩ := Option.map_eq_some_iff.1 hj
    have hlt : c.tabs < 12 := by simpa [fullBoard, hc] using room
    exact ⟨hlt, (h c (List.mem_of_getElem? hc)).2⟩
  · obtain ⟨c, hc, rfl⟩ := Option.map_eq_some_iff.1 hj
    exact h c (List.mem_of_getElem? hc)

/-- A tab that joins one board leaves the other boards as full as they were. -/
theorem fullBoard_modify_ne (l : List WBoard) {i j : Nat} (hij : i ≠ j) (f : WBoard → WBoard) :
    fullBoard (l.modify i f) j = fullBoard l j := by
  simp [fullBoard, hij]

theorem joinTab_length (shared : Bool) (own other i : Nat) (l : List WBoard) :
    (joinTab shared own other i l).length = l.length := by
  unfold joinTab; split <;> simp

/-- A TAB keeps the limits: it joins boards with fewer than 12 tabs, and one that is SHARED links to another board than its own,
since its link is at least 1 (R3, R6). -/
theorem visitTab_withinLimits {w w' : Walk} {k : TabKind} {o : Orient} {dx dy : Int} {len feed link : Nat}
    (hi : itemOk (.tab k o dx dy len feed link) = true) (hw : w.withinLimits)
    (h : visitTab w k o ⟨dx, dy⟩ len feed link = .go w') : w'.withinLimits := by
  obtain ⟨has_board, room, linked, hstart, hstop, own_room, other_room, rfl⟩ := visitTab_go h
  obtain ⟨hb, ht, boards, tabs⟩ := hw
  have link_pos (hs : (k == TabKind.shared) = true) : 1 ≤ link := by
    obtain rfl : k = .shared := by simpa using hs
    simp only [itemOk, Bool.and_eq_true, decide_eq_true_eq] at hi
    obtain ⟨-, hlink, -⟩ := hi
    exact hlink
  refine ⟨by rw [joinTab_length]; exact hb, by simp only [List.length_append, List.length_singleton]; omega, ?_, ?_⟩
  · unfold joinTab
    cases hs : k == TabKind.shared with
    | false => exact join_withinLimits boards own_room _
    | true =>
      have := link_pos hs
      have := linked hs
      refine join_withinLimits (join_withinLimits boards own_room _) ?_ none
      rw [fullBoard_modify_ne _ (by omega)]
      exact other_room hs
  · intro t ht
    simp only [joinTab_length]
    rcases List.mem_append.1 ht with ht | ht
    · exact tabs t ht
    · cases List.mem_singleton.1 ht
      refine ⟨hstart, hstop, by show w.boards.length - 1 < _; omega, fun o ho => ?_⟩
      simp only at ho
      split at ho
      · next hs =>
        have := link_pos hs
        have := linked hs
        cases ho
        show w.boards.length - 1 - link < w.boards.length - 1
        omega
      · cases ho

/-- A BOARD keeps the limits (R5, R13). -/
theorem visitBoard_withinLimits {w w' : Walk} {v : Nat} {d g : Pt} (hw : w.withinLimits)
    (h : visitBoard w v d g = .go w') : w'.withinLimits := by
  obtain ⟨room, inside, rfl⟩ := visitBoard_go h
  obtain ⟨hb, ht, boards, tabs⟩ := hw
  refine ⟨by simp only [List.length_append, List.length_singleton]; omega, ht, fun b hb => ?_, fun t ht => ?_⟩
  · rcases List.mem_append.1 hb with hb | hb
    · exact boards b hb
    · cases List.mem_singleton.1 hb; exact ⟨Nat.zero_le _, inside⟩
  · obtain ⟨hs, he, ho, hl⟩ := tabs t ht
    exact ⟨hs, he, by simp only [List.length_append]; omega, hl⟩

/-- The tables of a whole walk are within their limits (R5, R6, R13). -/
theorem walk_withinLimits {items : List (Option Item)} (hok : ∀ i, some i ∈ items → itemOk i = true) {fuel : Nat} {w : Walk}
    (h : walk items fuel Walk.begin = .whole w) : w.withinLimits := by
  refine (walk_whole_induction (P := Walk.withinLimits) (fun w w' _ hw hv => ?_) ?_ h).1
  · rcases visit_tables hv with ⟨hb, ht⟩ | ⟨v, d, g, hv⟩ | ⟨k, o, dx, dy, len, feed, link, hm, hv⟩
    · unfold Walk.withinLimits; rw [hb, ht]; exact hw
    · exact visitBoard_withinLimits hw hv
    · exact visitTab_withinLimits (hok _ hm) hw hv
  · exact ⟨by decide, by decide, nofun, nofun⟩

/-! ### Filling and fiducials -/

/-- A slot without a gap has every offset below its declared count filled (R12). -/
theorem filled_of_gap_none {r : RecipeSlot} (h : r.gap = none) {j : Nat} (hj : j < r.declared.getD 0)
    (hl : j < r.items.length) : ∃ i, r.items[j]? = some (some i) := by
  unfold RecipeSlot.gap at h
  split at h
  · cases h
  · next whole =>
    have at_j : r.program[j]? = some r.items[j] := by
      rw [RecipeSlot.program, List.getElem?_take_of_lt hj, List.getElem?_eq_getElem hl]
    have := List.findIdx?_eq_none_iff.1 whole _ (List.mem_of_getElem? at_j)
    obtain ⟨i, hi⟩ := Option.isSome_iff_exists.1 (by simpa using this)
    exact ⟨i, by rw [List.getElem?_eq_getElem hl, hi]⟩

/-- A slot without a gap has no item at or above its declared count (R12). -/
theorem unfilled_of_gap_none {r : RecipeSlot} (h : r.gap = none) {j : Nat} {i : Item} (hj : r.declared.getD 0 ≤ j) :
    r.items[j]? ≠ some (some i) := by
  unfold RecipeSlot.gap at h
  split at h
  · cases h
  · intro hi
    have none_above := List.findIdx?_eq_none_iff.1 (Option.map_eq_none_iff.1 h)
    have above : some i ∈ r.items.drop (r.declared.getD 0) := by
      refine List.mem_of_getElem? (i := j - r.declared.getD 0) ?_
      rw [List.getElem?_drop, Nat.add_sub_cancel' hj, hi]
    exact absurd (none_above _ above) (by simp)

/-- Where no FIDUCIAL's index appears at a lower offset, no index appears twice (R14). -/
theorem dupFid_none {l : List (Nat × Nat × Pt)} {seen : List Nat} (h : dupFid l seen = none) :
    (l.map fun q => q.2.1).Nodup ∧ ∀ q ∈ l, q.2.1 ∉ seen := by
  induction l generalizing seen with
  | nil => exact ⟨List.nodup_nil, nofun⟩
  | cons q l ih =>
    unfold dupFid at h
    split at h
    · cases h
    · next fresh =>
      obtain ⟨nodup, apart⟩ := ih h
      refine ⟨List.nodup_cons.2 ⟨fun hm => ?_, nodup⟩, fun p hp => ?_⟩
      · obtain ⟨p, hp, hpq⟩ := List.mem_map.1 hm
        exact apart p hp (by simp [hpq])
      · rcases List.mem_cons.1 hp with rfl | hp
        · simpa using fresh
        · exact fun hm => apart p hp (List.mem_cons_of_mem _ hm)

/-- The four checks after the walk all passed (R14). -/
theorem afterWalk_none {items : List (Option Item)} {w : Walk} (h : afterWalk items w = none) :
    (∃ o0 p0 o1 p1, fidAt items 0 = some (o0, p0) ∧ fidAt items 1 = some (o1, p1) ∧ 2500000000 ≤ (p1.sub p0).sq) ∧
      ((fids items).map fun q => q.2.1).Nodup ∧ ∀ b ∈ w.boards, b.release.isSome = true := by
  unfold afterWalk at h
  split at h
  · cases h
  · cases h
  · next f0 f1 h0 h1 =>
    split at h
    · cases h
    · next nodup =>
      split at h
      · cases h
      · next apart =>
        refine ⟨⟨_, _, _, _, h0, h1, by omega⟩, (dupFid_none nodup).1, fun b hb => ?_⟩
        have := List.findIdx?_eq_none_iff.1 (Option.map_eq_none_iff.1 h) b hb
        simpa using this

/-- A validation without an error: the filling and the check agree, the walk is whole, and the checks after it pass (R12 to
R14). -/
theorem validate_inr {r : RecipeSlot} {w : Walk} (h : r.validate = .inr w) :
    r.gap = none ∧ r.validation.map Validation.check = some (itemCheck r.program) ∧ r.walk = .whole w ∧
      afterWalk r.program w = none := by
  unfold RecipeSlot.validate at h
  simp only at h
  split at h
  · cases h
  · next hgap =>
    split at h
    · cases h
    · next hcheck =>
      split at h
      · cases h
      · next v hwalk =>
        split at h
        · cases h
        · next hafter => cases h; exact ⟨hgap, (not_not.1 hcheck).symm, hwalk, hafter⟩

/-- Settles O17: what the filling, the path of the walk, its tables and the checks behind it give. -/
theorem validRecipeKeepsLimits : Obligations.ValidRecipeKeepsLimits := by
  unfold Obligations.ValidRecipeKeepsLimits
  intro r w hok h opens closes
  obtain ⟨gap, check, hwalk, after⟩ := validate_inr h
  obtain ⟨hs, level, nonneg⟩ := walk_balanced hwalk
  obtain ⟨hboards, htabs, boards, tabs⟩ := walk_withinLimits (fun i hi => hok i (List.mem_of_mem_take hi)) hwalk
  obtain ⟨⟨o0, p0, o1, p1, h0, h1, apart⟩, nodup, release⟩ := afterWalk_none after
  have depth (k : Nat) : depthAt r.program k = (opens k : Int) - (closes k : Int) := rfl
  refine ⟨fun j => filled_of_gap_none gap, fun j i => unfilled_of_gap_none gap, fun k => ?_, ?_, fun no_exit k => ?_, hs,
    check, hboards, htabs, fun b hb => ⟨(boards b hb).1, release b hb, (boards b hb).2⟩, tabs,
    o0, p0, o1, p1, h0, h1, apart, nodup⟩
  · have := nonneg k
    rw [depth] at this; omega
  · rw [depth] at level; omega
  · have := walk_depth_le no_exit hwalk k
    rw [depth] at this; omega

end Sys2Proof.Machine
end

section
/-! Every table keeps its size (R1, R107, R140, R150, R181, R190): one lemma for each operation. -/

namespace Sys2Proof.Machine

/-- The sizes of the tables that have one: recipe slots, rack positions, lanes, lane sensors, parameters, notice classes. -/
def State.sizes (s : State) : Nat × Nat × Nat × Nat × Nat × Nat :=
  (s.recipes.slots.length, s.spindle.rack.length, s.hand.lanes.length, s.lines.lanes.length, s.req.params.length,
    s.notices.recs.length)

/-- A fold of operations that each keep the sizes keeps them. -/
theorem foldl_sizes {α : Type} (f : State → α → State) (hf : ∀ s a, (f s a).sizes = s.sizes) (l : List α) (s : State) :
    (l.foldl f s).sizes = s.sizes := by
  induction l generalizing s with
  | nil => rfl
  | cons a l ih => rw [List.foldl_cons, ih, hf]

variable (s : State)

@[simp] theorem with_hand_sizes (x : Handover) (h : x.lanes.length = s.hand.lanes.length) :
    ({ s with hand := x } : State).sizes = s.sizes := by simp [State.sizes, h]

@[simp] theorem with_spindle_sizes (x : Spindle) (h : x.rack.length = s.spindle.rack.length) :
    ({ s with spindle := x } : State).sizes = s.sizes := by simp [State.sizes, h]

@[simp] theorem with_lines_sizes (x : Lines) (h : x.lanes.length = s.lines.lanes.length) :
    ({ s with lines := x } : State).sizes = s.sizes := by simp [State.sizes, h]

@[simp] theorem with_req_sizes (x : ReqUnit) (h : x.params.length = s.req.params.length) :
    ({ s with req := x } : State).sizes = s.sizes := by simp [State.sizes, h]

@[simp] theorem with_disp_sizes (x : Dispatcher) : ({ s with disp := x } : State).sizes = s.sizes := rfl

@[simp] theorem with_tracker_sizes (x : Tracker) : ({ s with tracker := x } : State).sizes = s.sizes := rfl

@[simp] theorem with_locator_sizes (x : Locator) : ({ s with locator := x } : State).sizes = s.sizes := rfl

@[simp] theorem with_ev_sizes (x : EventMarks) : ({ s with ev := x } : State).sizes = s.sizes := rfl

@[simp] theorem with_ring_sizes (x : Ring) : ({ s with ring := x } : State).sizes = s.sizes := rfl

/-! ### Notices, parameters and the named operations -/

@[simp] theorem raise_sizes (d : Detail) : (raise d s).sizes = s.sizes := by simp [raise, State.sizes]

@[simp] theorem State.setNode_sizes (n : Node) (r : NodeRec) : (s.setNode n r).sizes = s.sizes := rfl

@[simp] theorem writeOrder_sizes (n : Node) (o : Order) : (writeOrder n o s).sizes = s.sizes := rfl

@[simp] theorem setLatch_sizes (n : Node) (w : FaultReason) : (setLatch n w s).sizes = s.sizes := rfl

@[simp] theorem pushReply_sizes (r : Reply) : (pushReply r s).sizes = s.sizes := rfl

@[simp] theorem State.modPanel_sizes (q : PanelRef) (f : Panel → Panel) : (s.modPanel q f).sizes = s.sizes := by
  unfold State.modPanel; split <;> simp

@[simp] theorem State.setHalf_sizes (h : Half) (l : List Board) : (s.setHalf h l).sizes = s.sizes := by
  unfold State.setHalf; split <;> simp

@[simp] theorem State.modBoard_sizes (q : PanelRef) (b : Nat) (f : Board → Board) : (s.modBoard q b f).sizes = s.sizes := by
  unfold State.modBoard; split <;> simp

@[simp] theorem setBoardState_sizes (q : PanelRef) (b : Nat) (st : BoardState) :
    (setBoardState q b st s).sizes = s.sizes := by simp [setBoardState]

@[simp] theorem leavePickQueue_sizes (b : Nat) : (leavePickQueue b s).sizes = s.sizes := rfl

@[simp] theorem askSelect_sizes : (askSelect s).sizes = s.sizes := rfl

@[simp] theorem joinPickBack_sizes (b : Nat) : (joinPickBack b s).sizes = s.sizes := rfl

@[simp] theorem joinPickFront_sizes (b : Nat) : (joinPickFront b s).sizes = s.sizes := rfl

@[simp] theorem State.modTab_sizes (i : Nat) (f : Tab → Tab) : (s.modTab i f).sizes = s.sizes := rfl

@[simp] theorem State.setHead_sizes (h : Head) (r : HeadRec) : (s.setHead h r).sizes = s.sizes := rfl

@[simp] theorem State.modHead_sizes (h : Head) (f : HeadRec → HeadRec) : (s.modHead h f).sizes = s.sizes := rfl

@[simp] theorem setHeadState_sizes (h : Head) (st : HeadState) : (setHeadState h st s).sizes = s.sizes := rfl

@[simp] theorem State.setFilter_sizes (h : Head) (f : Filter) : (s.setFilter h f).sizes = s.sizes := rfl

@[simp] theorem State.modRack_sizes (i : Nat) (f : RackPos → RackPos) :
    (s.modRack i f).sizes = s.sizes := by simp [State.modRack]

@[simp] theorem State.setDue_sizes (h : Head) (v : Bool) : (s.setDue h v).sizes = s.sizes := rfl

@[simp] theorem State.setChange_sizes (h : Head) (c : Option Change) : (s.setChange h c).sizes = s.sizes := rfl

@[simp] theorem reserveBin_sizes : (reserveBin s).sizes = s.sizes := by
  unfold reserveBin; dsimp only; (repeat' split) <;> simp

@[simp] theorem releaseBin_sizes : (releaseBin s).sizes = s.sizes := rfl

@[simp] theorem fillBin_sizes : (fillBin s).sizes = s.sizes := by
  unfold fillBin; split <;> simp

@[simp] theorem State.modLane_sizes (k : Nat) (f : Lane → Lane) : (s.modLane k f).sizes = s.sizes := by simp [State.modLane]

@[simp] theorem releaseSlot_sizes (d : Dest) : (releaseSlot d s).sizes = s.sizes := by
  unfold releaseSlot; (repeat' split) <;> simp

@[simp] theorem suspectSlot_sizes (d : Dest) : (suspectSlot d s).sizes = s.sizes := by
  unfold suspectSlot; (repeat' split) <;> simp

@[simp] theorem fillSlot_sizes (d : Dest) : (fillSlot d s).sizes = s.sizes := by
  unfold fillSlot; (repeat' split) <;> simp

@[simp] theorem State.modPicker_sizes (f : PickerRec → PickerRec) : (s.modPicker f).sizes = s.sizes := rfl

@[simp] theorem State.modElevator_sizes (f : ElevatorRec → ElevatorRec) : (s.modElevator f).sizes = s.sizes := rfl

@[simp] theorem State.modService_sizes (f : Service → Service) : (s.modService f).sizes = s.sizes := rfl

@[simp] theorem endPickerOrder_sizes : (endPickerOrder s).sizes = s.sizes := rfl

@[simp] theorem writePicker_sizes (k : PickerOrder) (o : Order) : (writePicker k o s).sizes = s.sizes := rfl

@[simp] theorem writeIndex_sizes (k i : Nat) : (writeIndex k i s).sizes = s.sizes := rfl

@[simp] theorem releaseContingency_sizes : (releaseContingency s).sizes = s.sizes := by
  unfold releaseContingency; (repeat' split) <;> simp

@[simp] theorem freeService_sizes : (freeService s).sizes = s.sizes := by
  unfold freeService; dsimp only; (repeat' split) <;> simp

/-! ### New orders -/

@[simp] theorem writeRetract_sizes : (writeRetract s).sizes = s.sizes := by
  unfold writeRetract; split <;> simp

@[simp] theorem writeReindex_sizes : (writeReindex s).sizes = s.sizes := by
  unfold writeReindex; (repeat' split) <;> simp

@[simp] theorem writeLift_sizes : (writeLift s).sizes = s.sizes := by
  unfold writeLift; (repeat' split) <;> simp

@[simp] theorem writePlace_sizes : (writePlace s).sizes = s.sizes := by
  unfold writePlace; (repeat' split) <;> simp

@[simp] theorem writeDue_sizes : (writeDue s).sizes = s.sizes := by simp [writeDue]

/-! ### Boards and their tabs -/

@[simp] theorem lowerBoard_sizes (b : Nat) : (lowerBoard b s).sizes = s.sizes := by simp [lowerBoard]

@[simp] theorem lowerCounts_sizes (t : Tab) : (lowerCounts t s).sizes = s.sizes := by
  unfold lowerCounts; split <;> simp

@[simp] theorem leaveLists_sizes (i : Nat) : (leaveLists i s).sizes = s.sizes := rfl

@[simp] theorem markSkipped_sizes (i : Nat) (w : SkipReason) : (markSkipped i w s).sizes = s.sizes := by
  unfold markSkipped; split <;> simp

@[simp] theorem skipTab_sizes (i : Nat) : (skipTab i s).sizes = s.sizes := by
  unfold skipTab; (repeat' split) <;> simp

@[simp] theorem skipFor_sizes (b i : Nat) : (skipFor b s i).sizes = s.sizes := by
  unfold skipFor; (repeat' split) <;> simp

@[simp] theorem skipTabsOf_sizes (b : Nat) : (skipTabsOf b s).sizes = s.sizes := by
  simp [skipTabsOf, foldl_sizes]

@[simp] theorem withdraw_sizes : (withdraw s).sizes = s.sizes := by
  unfold withdraw; dsimp only; (repeat' split) <;> simp

@[simp] theorem giveUpBin_sizes (r : Board) : (giveUpBin r s).sizes = s.sizes := by
  unfold giveUpBin; split <;> simp

@[simp] theorem retainNow_sizes (b : Nat) (w : RetainReason) : (retainNow b w s).sizes = s.sizes := by
  unfold retainNow; dsimp only; (repeat' split) <;> simp

@[simp] theorem retain_sizes (b : Nat) (w : RetainReason) : (retain b w s).sizes = s.sizes := by
  unfold retain; split <;> simp

@[simp] theorem retainJoined_sizes (t : Tab) (w : RetainReason) : (retainJoined t w s).sizes = s.sizes := by
  unfold retainJoined; split <;> simp

@[simp] theorem retainAll_sizes (w : RetainReason) : (retainAll w s).sizes = s.sizes := by
  simp [retainAll, foldl_sizes]

@[simp] theorem loseBoard_sizes (q : PanelRef) (b : Nat) (w : LostReason) : (loseBoard q b w s).sizes = s.sizes := by
  unfold loseBoard; (repeat' split) <;> simp

@[simp] theorem testReady_sizes (b : Nat) : (testReady b s).sizes = s.sizes := by
  unfold testReady; (repeat' split) <;> simp

@[simp] theorem panelDone_sizes : (panelDone s).sizes = s.sizes := by simp [panelDone]

@[simp] theorem testDone_sizes : (testDone s).sizes = s.sizes := by
  unfold testDone; split <;> simp

@[simp] theorem closePanel_sizes (q : PanelRef) : (closePanel q s).sizes = s.sizes := by
  unfold closePanel; split
  · rfl
  · next p _ =>
    cases q <;> exact (show _ = ((raise (.panelClosed p.id p.tally) s).setHalf p.half []).sizes from rfl).trans (by simp)

@[simp] theorem testClose_sizes : (testClose s).sizes = s.sizes := by
  unfold testClose; (repeat' split) <;> simp

/-! ### The heads -/

@[simp] theorem putTab_sizes (i : Nat) (p : Place) (f : Bool) : (putTab i p f s).sizes = s.sizes := by
  unfold putTab; split <;> simp

@[simp] theorem evalPairing_sizes : (evalPairing s).sizes = s.sizes := by
  unfold evalPairing; (repeat' split) <;> simp

@[simp] theorem reassign_sizes (i : Nat) : (reassign s i).sizes = s.sizes := by
  unfold reassign; split <;> simp

@[simp] theorem moveOut_sizes (h : Head) : (moveOut h s).sizes = s.sizes := by
  unfold moveOut; dsimp only; (repeat' split) <;> simp [foldl_sizes]

@[simp] theorem leaveService_sizes (h : Head) : (leaveService h s).sizes = s.sizes := by
  unfold leaveService; dsimp only; (repeat' split) <;> simp

@[simp] theorem takeUnassigned_sizes (h : Head) (i : Nat) : (takeUnassigned h s i).sizes = s.sizes := by
  unfold takeUnassigned; (repeat' split) <;> simp

@[simp] theorem enterService_sizes (h : Head) : (enterService h s).sizes = s.sizes := by
  simp [enterService, foldl_sizes]

@[simp] theorem grant_sizes (i : Nat) : (grant i s).sizes = s.sizes := by
  unfold grant; (repeat' split) <;> simp

@[simp] theorem stopHead_sizes (h : Head) (c : StopCause) : (stopHead h c s).sizes = s.sizes := by
  unfold stopHead; split <;> simp

@[simp] theorem stopHeads_sizes (c : StopCause) : (stopHeads c s).sizes = s.sizes := by simp [stopHeads]

@[simp] theorem stopTab_sizes (i : Nat) (c : StopCause) : (stopTab i c s).sizes = s.sizes := by
  unfold stopTab; (repeat' split) <;> simp

@[simp] theorem revoke_sizes (i : Nat) : (revoke i s).sizes = s.sizes := by
  unfold revoke; (repeat' split) <;> simp

@[simp] theorem addCause_sizes (f : Causes → Causes) : (addCause f s).sizes = s.sizes := by
  unfold addCause; dsimp only; split
  · rw [stopHeads_sizes]; rfl
  · rfl

/-! ### The spindle monitor -/

@[simp] theorem writeTool_sizes (h : Head) : (writeTool h s).sizes = s.sizes := by
  unfold writeTool; (repeat' split) <;> simp

@[simp] theorem engage_sizes (h : Head) (c : Change) (i : Nat) : (engage h c i s).sizes = s.sizes := by
  unfold engage; dsimp only; (repeat' split) <;> simp

@[simp] theorem pickBit_sizes (h : Head) : (pickBit h s).sizes = s.sizes := by
  unfold pickBit
  split
  · rfl
  · split
    · simp
    · refine (leaveService_sizes _ _).trans ((raise_sizes _ _).trans ((with_spindle_sizes _ _ rfl).trans ?_))
      split <;> simp

@[simp] theorem beginChange_sizes (h : Head) : (beginChange h s).sizes = s.sizes := by simp [beginChange]

@[simp] theorem headIdle_sizes (h : Head) : (headIdle h s).sizes = s.sizes := by
  unfold headIdle; split <;> simp

@[simp] theorem headBack_sizes (h : Head) : (headBack h s).sizes = s.sizes := by
  unfold headBack; dsimp only; (repeat' split) <;> simp

@[simp] theorem serveOne_sizes (h : Head) : (serveOne s h).sizes = s.sizes := by
  unfold serveOne; (repeat' split) <;> simp

@[simp] theorem serveList_sizes : (serveList s).sizes = s.sizes := by
  simp [serveList, foldl_sizes]

@[simp] theorem returnBit_sizes (h : Head) (c : Change) : (returnBit h c s).sizes = s.sizes := by
  unfold returnBit; dsimp only; (repeat' split) <;> simp

@[simp] theorem toolOk_sizes (h : Head) (c : Change) : (toolOk h c s).sizes = s.sizes := by
  unfold toolOk; dsimp only; (repeat' split) <;> simp

@[simp] theorem disengage_sizes (c : Change) : (disengage c s).sizes = s.sizes := by
  unfold disengage; split <;> simp

@[simp] theorem toolNoBit_sizes (h : Head) (c : Change) : (toolNoBit h c s).sizes = s.sizes := by
  unfold toolNoBit; split <;> simp

@[simp] theorem failChange_sizes (h : Head) : (failChange h s).sizes = s.sizes := by
  unfold failChange; (repeat' split) <;> simp

@[simp] theorem failWaiting_sizes (h : Head) : (failWaiting h s).sizes = s.sizes := rfl

@[simp] theorem chargeBit_sizes (h : Head) (m : Nat) : (chargeBit h m s).sizes = s.sizes := by
  unfold chargeBit; dsimp only; (repeat' split) <;> simp

@[simp] theorem accountDone_sizes (h : Head) (l : Nat) : (accountDone h l s).sizes = s.sizes := by simp [accountDone]

@[simp] theorem accountAbort_sizes (h : Head) (r : Option Nat) :
    (accountAbort h r s).sizes = s.sizes := by simp [accountAbort]

@[simp] theorem declareBroken_sizes (h : Head) : (declareBroken h s).sizes = s.sizes := by simp [declareBroken]

@[simp] theorem acceptSample_sizes (h : Head) (x : Nat) : (acceptSample h x s).sizes = s.sizes := by
  unfold acceptSample; dsimp only; (repeat' split) <;> simp

@[simp] theorem offerSample_sizes (h : Head) (r l : Nat) : (offerSample h r l s).sizes = s.sizes := by
  unfold offerSample; dsimp only; (repeat' split) <;> simp

/-! ### Cutting -/

@[simp] theorem releaseOrdered_sizes (t : Tab) : (releaseOrdered t s).sizes = s.sizes := by
  unfold releaseOrdered; split <;> simp

@[simp] theorem issueCut_sizes (h : Head) (i : Nat) : (issueCut h i s).sizes = s.sizes := by
  unfold issueCut; split <;> simp

@[simp] theorem issuePark_sizes (h : Head) : (issuePark h s).sizes = s.sizes := rfl

@[simp] theorem arbiter_sizes (h : Head) : (arbiter h s).sizes = s.sizes := by
  unfold arbiter; (repeat' split) <;> simp

@[simp] theorem runArbiter_sizes : (runArbiter s).sizes = s.sizes := by simp [runArbiter]

@[simp] theorem dropLifted_sizes (q : PanelRef) (b : Nat) : (dropLifted q b s).sizes = s.sizes := by simp [dropLifted]

@[simp] theorem tornBoard_sizes (b : Nat) (v : Bool) : (tornBoard b v s).sizes = s.sizes := by
  unfold tornBoard; split <;> simp

@[simp] theorem releaseDone_sizes (b : Nat) : (releaseDone b s).sizes = s.sizes := by
  unfold releaseDone; dsimp only; (repeat' split) <;> simp

@[simp] theorem endHead_sizes (h : Head) : (endHead h s).sizes = s.sizes := rfl

@[simp] theorem handPeak_sizes (h : Head) (i : Nat) : (handPeak h i s).sizes = s.sizes := rfl

@[simp] theorem reportDone_sizes (t : Tab) : (reportDone t s).sizes = s.sizes := by
  unfold reportDone; (repeat' split) <;> simp

@[simp] theorem cutDone_sizes (h : Head) : (cutDone h s).sizes = s.sizes := by
  unfold cutDone; (repeat' split) <;> simp

@[simp] theorem failTab_sizes (i : Nat) (w : CutHow) : (failTab i w s).sizes = s.sizes := by
  unfold failTab; split <;> simp

@[simp] theorem requeue_sizes (h : Head) (b : Bool) (i : Nat) : (requeue h b i s).sizes = s.sizes := by
  unfold requeue; (repeat' split) <;> simp

@[simp] theorem settlePlain_sizes (h : Head) (b : Bool) (w : CutHow) (i : Nat) :
    (settlePlain h b w i s).sizes = s.sizes := by
  unfold settlePlain; (repeat' split) <;> simp

@[simp] theorem retainReleasing_sizes (b : Nat) (w : RetainReason) : (retainReleasing b w s).sizes = s.sizes := by
  unfold retainReleasing; split <;> simp

@[simp] theorem backToGripped_sizes (b : Nat) : (backToGripped b s).sizes = s.sizes := by
  unfold backToGripped; split <;> simp

@[simp] theorem settleRelease_sizes (h : Head) (b : Bool) (w : CutHow) (i : Nat) :
    (settleRelease h b w i s).sizes = s.sizes := by
  unfold settleRelease; (repeat' split) <;> simp

@[simp] theorem settleReleaseTab_sizes (h : Head) (b : Bool) (w : CutHow) (i : Nat) :
    (settleReleaseTab h b w i s).sizes = s.sizes := by
  unfold settleReleaseTab; dsimp only; (repeat' split) <;> simp

@[simp] theorem settleTab_sizes (h : Head) (b : Bool) (w : CutHow) (i : Nat) : (settleTab h b w i s).sizes = s.sizes := by
  unfold settleTab; (repeat' split) <;> simp

@[simp] theorem cutStopped_sizes (h : Head) (r : Nat) : (cutStopped h r s).sizes = s.sizes := by
  unfold cutStopped; split <;> simp

@[simp] theorem faultCut_sizes (h : Head) (w : FaultReason) : (faultCut h w s).sizes = s.sizes := by
  unfold faultCut; split <;> simp

@[simp] theorem headFault_sizes (h : Head) (w : FaultReason) : (headFault h w s).sizes = s.sizes := by
  unfold headFault; dsimp only; (repeat' split) <;> simp

/-! ### Picking and placing -/

@[simp] theorem selectBoard_sizes (b : Nat) (r : Board) (d : Dest) : (selectBoard b r d s).sizes = s.sizes := by
  unfold selectBoard; split <;> simp

@[simp] theorem scanQueue_sizes (l : List Nat) : (scanQueue l s).sizes = s.sizes := by
  induction l generalizing s with
  | nil => rfl
  | cons b l ih => unfold scanQueue; (repeat' split) <;> simp [ih]

@[simp] theorem trySelect_sizes : (trySelect s).sizes = s.sizes := by
  unfold trySelect; split <;> simp

@[simp] theorem clearMarks_sizes : (clearMarks s).sizes = s.sizes := rfl

@[simp] theorem selectIfAsked_sizes : (selectIfAsked s).sizes = s.sizes := by
  unfold selectIfAsked; split <;> simp

@[simp] theorem settle_sizes : (settle s).sizes = s.sizes := by simp [settle]

@[simp] theorem pickGripped_sizes : (pickGripped s).sizes = s.sizes := by
  unfold pickGripped; dsimp only; (repeat' split) <;> simp

@[simp] theorem missBoard_sizes (b : Nat) : (missBoard b s).sizes = s.sizes := by
  unfold missBoard; dsimp only; (repeat' split) <;> simp

@[simp] theorem pickMissed_sizes : (pickMissed s).sizes = s.sizes := by
  unfold pickMissed; dsimp only; (repeat' split) <;> simp

@[simp] theorem retractOk_sizes : (retractOk s).sizes = s.sizes := by
  unfold retractOk; split <;> simp

@[simp] theorem moveServed_sizes (a b : BoardState) : (moveServed a b s).sizes = s.sizes := by
  unfold moveServed; (repeat' split) <;> simp

@[simp] theorem liftOk_sizes : (liftOk s).sizes = s.sizes := by simp [liftOk]

@[simp] theorem liftDropped_sizes : (liftDropped s).sizes = s.sizes := by
  unfold liftDropped; dsimp only; (repeat' split) <;> simp

@[simp] theorem stayHeld_sizes : (stayHeld s).sizes = s.sizes := by
  unfold stayHeld; dsimp only; (repeat' split) <;> simp

@[simp] theorem stayLifted_sizes : (stayLifted s).sizes = s.sizes := by
  unfold stayLifted; dsimp only; (repeat' split) <;> simp

@[simp] theorem loseServed_sizes (w : LostReason) : (loseServed w s).sizes = s.sizes := by
  unfold loseServed; (repeat' split) <;> simp

@[simp] theorem finishServed_sizes (b : BoardState) (f : Panel → Panel) : (finishServed b f s).sizes = s.sizes := by
  unfold finishServed; (repeat' split) <;> simp

@[simp] theorem countStacked_sizes : (countStacked s).sizes = s.sizes := rfl

@[simp] theorem placeOk_sizes : (placeOk s).sizes = s.sizes := by
  unfold placeOk; dsimp only; (repeat' split) <;> simp

@[simp] theorem placeDropped_sizes : (placeDropped s).sizes = s.sizes := by
  unfold placeDropped; dsimp only; (repeat' split) <;> simp

@[simp] theorem confirmPlacement_sizes (v : Service) : (confirmPlacement v s).sizes = s.sizes := by
  unfold confirmPlacement; dsimp only; (repeat' split) <;> simp

@[simp] theorem laneActivated_sizes (k : Nat) : (laneActivated k s).sizes = s.sizes := by
  unfold laneActivated; (repeat' split) <;> simp

@[simp] theorem windowEnds_sizes : (windowEnds s).sizes = s.sizes := by
  unfold windowEnds; (repeat' split) <;> simp

@[simp] theorem laneStuck_sizes (k : Nat) : (laneStuck k s).sizes = s.sizes := by
  unfold laneStuck; (repeat' split) <;> simp

@[simp] theorem indexOk_sizes : (indexOk s).sizes = s.sizes := by
  unfold indexOk; split <;> simp

@[simp] theorem elevatorFault_sizes (w : FaultReason) : (elevatorFault w s).sizes = s.sizes := by
  unfold elevatorFault; split <;> simp

@[simp] theorem returnReady_sizes (b : Nat) (f : Bool) : (returnReady b f s).sizes = s.sizes := by
  unfold returnReady; (repeat' split) <;> simp

@[simp] theorem faultBoard_sizes (q : PanelRef) (b : Nat) : (faultBoard q b s).sizes = s.sizes := by
  unfold faultBoard; dsimp only; (repeat' split) <;> simp

@[simp] theorem pickerFault_sizes (w : FaultReason) : (pickerFault w s).sizes = s.sizes := by
  unfold pickerFault; dsimp only; (repeat' split) <;> simp

/-! ### The locator -/

@[simp] theorem State.modLoc_sizes (f : LocRec → LocRec) : (s.modLoc f).sizes = s.sizes := rfl

@[simp] theorem enterRefused_sizes (o : LocOutcome) : (enterRefused o s).sizes = s.sizes := by simp [enterRefused]

@[simp] theorem locationRefused_sizes (o : LocOutcome) : (locationRefused o s).sizes = s.sizes := by
  unfold locationRefused; (repeat' split) <;> simp

@[simp] theorem refuse_sizes (o : LocOutcome) (d : Option Nat) : (refuse o d s).sizes = s.sizes := by simp [refuse]

@[simp] theorem reachTab_sizes (i : Nat) : (reachTab s i).sizes = s.sizes := by
  unfold reachTab; (repeat' split) <;> simp

@[simp] theorem buildRelease_sizes (i : Nat) : (buildRelease s i).sizes = s.sizes := by
  unfold buildRelease; (repeat' split) <;> simp

@[simp] theorem buildTab_sizes (k : TabKind) (i : Nat) : (buildTab k s i).sizes = s.sizes := by
  unfold buildTab; (repeat' split) <;> simp

@[simp] theorem buildQueues_sizes : (buildQueues s).sizes = s.sizes := by
  simp [buildQueues, foldl_sizes]

@[simp] theorem testAllReady_sizes : (testAllReady s).sizes = s.sizes := by
  simp [testAllReady, foldl_sizes]

@[simp] theorem locationPassed_sizes : (locationPassed s).sizes = s.sizes := by simp [locationPassed]

@[simp] theorem retainMarkedTab_sizes (i : Nat) : (retainMarkedTab s i).sizes = s.sizes := by
  unfold retainMarkedTab; (repeat' split) <;> simp

@[simp] theorem retainMarkedBoard_sizes (b : Nat) : (retainMarkedBoard s b).sizes = s.sizes := by
  unfold retainMarkedBoard; (repeat' split) <;> simp

@[simp] theorem retainMarked_sizes : (retainMarked s).sizes = s.sizes := by
  simp [retainMarked, foldl_sizes]

@[simp] theorem mapTables_sizes : (mapTables s).sizes = s.sizes := by
  unfold mapTables; dsimp only; (repeat' split) <;> simp

@[simp] theorem tryMapping_sizes : (tryMapping s).sizes = s.sizes := by
  unfold tryMapping; (repeat' split) <;> simp

@[simp] theorem issueLocate_sizes : (issueLocate s).sizes = s.sizes := by
  unfold issueLocate; (repeat' split) <;> simp

@[simp] theorem locateFound_sizes (p q r : Pt) : (locateFound p q r s).sizes = s.sizes := by
  unfold locateFound; dsimp only; (repeat' split) <;> simp

@[simp] theorem locateDone_sizes (r : Result) (st : Status) : (locateDone r st s).sizes = s.sizes := by
  unfold locateDone; (repeat' split) <;> simp

@[simp] theorem visionFault_sizes (w : FaultReason) : (visionFault w s).sizes = s.sizes := by
  unfold visionFault; dsimp only; (repeat' split) <;> simp

@[simp] theorem abandonLoc_sizes : (abandonLoc s).sizes = s.sizes := by
  unfold abandonLoc; split <;> simp

@[simp] theorem applyAbort_sizes : (applyAbort s).sizes = s.sizes := by simp [applyAbort]

@[simp] theorem abortActive_sizes (m : AbortMark) (w : StopReason) : (abortActive m w s).sizes = s.sizes := by
  unfold abortActive; (repeat' split) <;> simp

@[simp] theorem clampLost_sizes : (clampLost s).sizes = s.sizes := by
  unfold clampLost; (repeat' split) <;> simp

/-! ### Recipes -/

@[simp] theorem State.modSlot_sizes (i : Nat) (f : RecipeSlot → RecipeSlot) :
    (s.modSlot i f).sizes = s.sizes := by simp [State.modSlot, State.sizes]

@[simp] theorem replyReserved_sizes (r : Reply) : (replyReserved r s).sizes = s.sizes := rfl

@[simp] theorem endValidation_sizes (i : Nat) : (endValidation i s).sizes = s.sizes := by
  unfold endValidation; (repeat' split) <;> simp

@[simp] theorem writeTables_sizes (p : Panel) : (writeTables p s).sizes = s.sizes := by
  unfold writeTables; split
  · exact (with_disp_sizes _ _).trans (State.setHalf_sizes ..)
  · rfl

@[simp] theorem expansionDone_sizes : (expansionDone s).sizes = s.sizes := by
  unfold expansionDone; (repeat' split) <;> simp

/-! ### Requests on recipes and panels -/

@[simp] theorem accepted_fst : (accepted s).1 = s := rfl

@[simp] theorem answered_fst (c : Code) : (answered c s).1 = s := rfl

@[simp] theorem doRecipeLoad_sizes (slot offset count : Nat) (l : List LoadItem) :
    (doRecipeLoad slot offset count l s).1.sizes = s.sizes := by
  unfold doRecipeLoad; dsimp only; (repeat' split) <;> first | rfl | exact State.modSlot_sizes ..

@[simp] theorem doRecipeCommit_sizes (src tag slot count check : Nat) :
    (doRecipeCommit src tag slot count check s).1.sizes = s.sizes := by
  unfold doRecipeCommit; dsimp only; (repeat' split) <;> first | rfl | exact State.modSlot_sizes ..

@[simp] theorem doRecipeDrop_sizes (slot : Nat) : (doRecipeDrop slot s).1.sizes = s.sizes := by
  unfold doRecipeDrop; dsimp only; (repeat' split) <;> first | rfl | exact State.modSlot_sizes ..

@[simp] theorem doPanelAnnounce_sizes (id slot : Nat) (bad : List Nat) :
    (doPanelAnnounce id slot bad s).1.sizes = s.sizes := by
  unfold doPanelAnnounce; (repeat' split) <;> simp

@[simp] theorem startPanel_sizes (a : Announce) (l : List Announce) (r : RecipeSlot) :
    (startPanel a l r s).sizes = s.sizes := by simp [startPanel]

@[simp] theorem doPanelStart_sizes : (doPanelStart s).1.sizes = s.sizes := by
  unfold doPanelStart; (repeat' split) <;> simp

@[simp] theorem startClosing_sizes : (startClosing s).sizes = s.sizes := rfl

@[simp] theorem doPanelEject_sizes : (doPanelEject s).1.sizes = s.sizes := by
  unfold doPanelEject; (repeat' split) <;> simp

@[simp] theorem withdrawAnnounced_sizes (id : Nat) : (withdrawAnnounced id s).sizes = s.sizes := rfl

@[simp] theorem doPanelAbort_sizes (id : Nat) : (doPanelAbort id s).1.sizes = s.sizes := by
  unfold doPanelAbort; (repeat' split) <;> simp

/-! ### The cell's own requests -/

@[simp] theorem doCellHold_sizes : (doCellHold s).1.sizes = s.sizes := by simp [doCellHold]

@[simp] theorem pickerBack_sizes : (pickerBack s).sizes = s.sizes := rfl

@[simp] theorem elevatorBack_sizes : (elevatorBack s).sizes = s.sizes := rfl

@[simp] theorem nodeBack_sizes (n : Node) : (nodeBack n s).sizes = s.sizes := by
  unfold nodeBack; split <;> simp

@[simp] theorem clearLatch_sizes (n : Node) : (clearLatch s n).sizes = s.sizes := by
  unfold clearLatch; split <;> simp

@[simp] theorem enterRun_sizes : (enterRun s).sizes = s.sizes := by simp [enterRun]

@[simp] theorem doCellResume_sizes : (doCellResume s).1.sizes = s.sizes := by
  unfold doCellResume; dsimp only; (repeat' split) <;> simp [foldl_sizes]

@[simp] theorem resetHead_sizes (h : Head) : (resetHead h s).sizes = s.sizes := by simp [resetHead]

@[simp] theorem resetDispatcher_sizes : (resetDispatcher s).sizes = s.sizes := by simp [resetDispatcher]

@[simp] theorem resetHandover_sizes : (resetHandover s).sizes = s.sizes := by simp [resetHandover, State.sizes]

@[simp] theorem resetLocator_sizes : (resetLocator s).sizes = s.sizes := by
  unfold resetLocator; dsimp only; (repeat' split) <;> rfl

@[simp] theorem resetTracker_sizes : (resetTracker s).sizes = s.sizes := rfl

@[simp] theorem resetSlot_sizes (i : Nat) : (resetSlot s i).sizes = s.sizes := by
  unfold resetSlot; (repeat' split) <;> simp

@[simp] theorem resetRecipes_sizes : (resetRecipes s).sizes = s.sizes := by
  simp [resetRecipes, foldl_sizes]

@[simp] theorem clearNotices_sizes : (clearNotices s).sizes = s.sizes := by simp [clearNotices, State.sizes]

@[simp] theorem doCellReset_sizes : (doCellReset s).1.sizes = s.sizes := by simp [doCellReset]

/-! ### Requests on the magazine, the rack and the parameters -/

@[simp] theorem doLaneSet_sizes (lane slots : Nat) (v : BitVec 16) (fill : Nat) (blocked : List Nat) :
    (doLaneSet lane slots v fill blocked s).1.sizes = s.sizes := by
  unfold doLaneSet; (repeat' split) <;> simp

@[simp] theorem doLaneRelease_sizes (lane : Nat) : (doLaneRelease lane s).1.sizes = s.sizes := by
  unfold doLaneRelease; (repeat' split) <;> simp

@[simp] theorem doLaneClearJam_sizes (lane : Nat) : (doLaneClearJam lane s).1.sizes = s.sizes := by
  unfold doLaneClearJam; (repeat' split) <;> simp

@[simp] theorem doBinEmptied_sizes : (doBinEmptied s).1.sizes = s.sizes := by simp [doBinEmptied]

@[simp] theorem doRackSet_sizes (position state cls wear : Nat) :
    (doRackSet position state cls wear s).1.sizes = s.sizes := by
  unfold doRackSet; dsimp only; (repeat' split) <;> simp

@[simp] theorem doToolChange_sizes (head : Nat) : (doToolChange head s).1.sizes = s.sizes := by
  unfold doToolChange; (repeat' split) <;> simp

@[simp] theorem State.setParam_sizes (n v : Nat) : (s.setParam n v).sizes = s.sizes := by simp [State.setParam, State.sizes]

@[simp] theorem doParamSet_sizes (param value : Nat) : (doParamSet param value s).1.sizes = s.sizes := by
  unfold doParamSet; dsimp only; (repeat' split) <;> simp

@[simp] theorem doParamGet_sizes (param : Nat) : (doParamGet param s).1.sizes = s.sizes := by
  unfold doParamGet; split <;> simp

@[simp] theorem doNoticeMask_sizes (level : Nat) : (doNoticeMask level s).1.sizes = s.sizes := by
  unfold doNoticeMask; dsimp only; (repeat' split) <;> rfl

@[simp] theorem doNoticeLevel_sizes (cls level : Nat) : (doNoticeLevel cls level s).1.sizes = s.sizes := by
  unfold doNoticeLevel; split <;> simp [State.sizes]

@[simp] theorem doIdentify_sizes : (doIdentify s).1.sizes = s.sizes := rfl

@[simp] theorem State.drawn_sizes : s.drawn.sizes = s.sizes := by
  unfold State.drawn; split <;> rfl

@[simp] theorem doTableRead_sizes (table selector start count : Nat) :
    (doTableRead table selector start count s).1.sizes = s.sizes := by
  unfold doTableRead; (repeat' split) <;> simp

/-! ### The request unit -/

@[simp] theorem act_sizes (r : Request) : (act r s).1.sizes = s.sizes := by
  unfold act; split <;> simp

@[simp] theorem replied_sizes (r : Request) (a : Act) : (replied r a).sizes = a.1.sizes := by
  unfold replied; split <;> simp

@[simp] theorem handle_sizes (r : Request) : (handle r s).sizes = s.sizes := by simp [handle]

@[simp] theorem State.setRequests_sizes (l : List Request) : (s.setRequests l).sizes = s.sizes := rfl

@[simp] theorem arrive_sizes (r : Request) : (arrive r s).sizes = s.sizes := by
  unfold arrive; dsimp only; (repeat' split) <;> rfl

@[simp] theorem handleFront_sizes : (handleFront s).sizes = s.sizes := by
  unfold handleFront; (repeat' split) <;> simp

@[simp] theorem submit_sizes (r : Request) : (submit r s).sizes = s.sizes := by
  unfold submit; split <;> simp

/-! ### Node status -/

@[simp] theorem nodeFault_sizes (n : Node) (w : FaultReason) : (nodeFault n w s).sizes = s.sizes := by
  unfold nodeFault; split <;> simp

@[simp] theorem headTaken_sizes (h : Head) : (headTaken h s).sizes = s.sizes := by
  unfold headTaken; dsimp only; (repeat' split) <;> simp

@[simp] theorem pickerTaken_sizes : (pickerTaken s).sizes = s.sizes := by
  unfold pickerTaken; (repeat' split) <;> simp

@[simp] theorem elevatorTaken_sizes : (elevatorTaken s).sizes = s.sizes := by
  unfold elevatorTaken; (repeat' split) <;> simp

@[simp] theorem visionTaken_sizes : (visionTaken s).sizes = s.sizes := by
  unfold visionTaken; split <;> simp

@[simp] theorem orderTaken_sizes (n : Node) : (orderTaken n s).sizes = s.sizes := by
  unfold orderTaken; split <;> simp

@[simp] theorem testTaken_sizes (n : Node) (k : Nat) : (testTaken n k s).sizes = s.sizes := by
  unfold testTaken; dsimp only; (repeat' split) <;> simp

@[simp] theorem headCompleted_sizes (h : Head) (o : Order) (r : Result) (m : Nat) :
    (headCompleted h o r m s).sizes = s.sizes := by
  unfold headCompleted; (repeat' split) <;> simp

@[simp] theorem pickerCompleted_sizes (r : Result) : (pickerCompleted r s).sizes = s.sizes := by
  unfold pickerCompleted; (repeat' split) <;> simp

@[simp] theorem elevatorCompleted_sizes (r : Result) : (elevatorCompleted r s).sizes = s.sizes := by
  unfold elevatorCompleted; (repeat' split) <;> simp

@[simp] theorem orderCompleted_sizes (n : Node) (o : Order) (st : Status) : (orderCompleted n o st s).sizes = s.sizes := by
  unfold orderCompleted; (repeat' split) <;> simp

@[simp] theorem testCompleted_sizes (n : Node) (st : Status) : (testCompleted n st s).sizes = s.sizes := by
  unfold testCompleted; dsimp only; (repeat' split) <;> simp

@[simp] theorem tryEarlyLift_sizes (h : Head) (r : Nat) : (tryEarlyLift h r s).sizes = s.sizes := by
  unfold tryEarlyLift; (repeat' split) <;> simp

@[simp] theorem headData_sizes (h : Head) (st : Status) : (headData h st s).sizes = s.sizes := by
  unfold headData; dsimp only; (repeat' split) <;> simp

@[simp] theorem nodeData_sizes (n : Node) (st : Status) : (nodeData n st s).sizes = s.sizes := by
  unfold nodeData; split <;> simp

@[simp] theorem firstFault_sizes (n : Node) : (firstFault n s).sizes = s.sizes := by
  unfold firstFault; split <;> simp

@[simp] theorem firstStatus_sizes (n : Node) (f : Bool) : (firstStatus n f s).sizes = s.sizes := by
  unfold firstStatus; (repeat' split) <;> simp

@[simp] theorem storeReported_sizes (n : Node) (f : Bool) : (storeReported n f s).sizes = s.sizes := by
  unfold storeReported; dsimp only; (repeat' split) <;> simp

@[simp] theorem statusTaken_sizes (n : Node) (st : Status) : (statusTaken n st s).sizes = s.sizes := by simp [statusTaken]

@[simp] theorem loseContact_sizes (n : Node) : (loseContact n s).sizes = s.sizes := by simp [loseContact]

@[simp] theorem countAbsent_sizes (n : Node) : (countAbsent s n).sizes = s.sizes := by
  unfold countAbsent; dsimp only; (repeat' split) <;> simp

/-! ### Frames and ports -/

@[simp] theorem takeFor_sizes (r : Rec) (k : Taking) (n : Node) : (takeFor r k n).s.sizes = k.s.sizes := by
  unfold takeFor; (repeat' split) <;> simp

@[simp] theorem takeRequest_sizes (r : Rec) : (takeRequest r s).sizes = s.sizes := by
  unfold takeRequest; exact (arrive_sizes ..).trans (by split <;> rfl)

/-- A fold over the records or nodes of a frame keeps the sizes when each of its acts does. -/
theorem foldl_taken {α : Type} (f : Taking → α → Taking) (hf : ∀ k a, (f k a).s.sizes = k.s.sizes) (l : List α)
    (k : Taking) : (l.foldl f k).s.sizes = k.s.sizes := by
  induction l generalizing k with
  | nil => rfl
  | cons a l ih => rw [List.foldl_cons, ih, hf]

@[simp] theorem takeRecord_sizes (k : Taking) (r : Rec) : (takeRecord k r).s.sizes = k.s.sizes := by
  unfold takeRecord; (repeat' split) <;> simp [foldl_taken]

@[simp] theorem contactWatch_sizes (l : List Node) : (contactWatch l s).sizes = s.sizes := by
  simp [contactWatch, foldl_sizes]

@[simp] theorem restartSilence_sizes : (restartSilence s).sizes = s.sizes := rfl

@[simp] theorem frameEvents_sizes (l : List Rec) : (frameEvents l s).sizes = s.sizes := by
  simp [frameEvents, foldl_taken]

@[simp] theorem moveBoth_sizes : (moveBoth s).sizes = s.sizes := by simp [moveBoth]

@[simp] theorem goodFrame_sizes (l : List Rec) : (goodFrame l s).sizes = s.sizes := by
  unfold goodFrame; dsimp only; (repeat' split) <;> simp

@[simp] theorem putNotices_sizes (n : Nat) (t : Tail) : (putNotices n s t).1.sizes = s.sizes := by
  induction n generalizing s t with
  | zero => rfl
  | succ n ih =>
    unfold putNotices; dsimp only; (repeat' split)
    · rfl
    · rfl
    · rw [ih]; simp [State.sizes]

@[simp] theorem fillTail_sizes (n : Nat) : (fillTail n s).1.sizes = s.sizes := by
  simp [fillTail]

@[simp] theorem State.setPort_sizes (q : Port) (r : PortRec) : (s.setPort q r).sizes = s.sizes := by
  unfold State.setPort; split <;> simp

@[simp] theorem movePort_sizes (q : Port) (r : PortRec) : (movePort q r s).sizes = s.sizes := by simp [movePort]

@[simp] theorem beginTraining_sizes (q : Port) : (beginTraining q s).sizes = s.sizes := by simp [beginTraining]

@[simp] theorem leaveUp_sizes (q : Port) : (leaveUp q s).sizes = s.sizes := by simp [leaveUp]

@[simp] theorem enterUp_sizes (q : Port) : (enterUp q s).sizes = s.sizes := by simp [enterUp]

@[simp] theorem portExpiry_sizes (q : Port) : (portExpiry q s).sizes = s.sizes := by
  unfold portExpiry; split <;> simp

@[simp] theorem portSymbol_sizes (q : Port) (y : Symbol) : (portSymbol q y s).sizes = s.sizes := by
  unfold portSymbol; dsimp only; (repeat' split) <;> simp

@[simp] theorem send_sizes (q : Port) (b : List Byte) : (send q b s).sizes = s.sizes := rfl

@[simp] theorem frameP_sizes (b : List Byte) : (frameP b s).sizes = s.sizes := by
  unfold frameP; (repeat' split) <;> simp

@[simp] theorem frameN_sizes (b : List Byte) : (frameN b s).sizes = s.sizes := by
  unfold frameN; split <;> simp

/-! ### The lines -/

@[simp] theorem State.modLaneLine_sizes (k : Nat) (f : LaneLine → LaneLine) :
    (s.modLaneLine k f).sizes = s.sizes := by simp [State.modLaneLine, State.sizes]

@[simp] theorem State.setSense_sizes (l : SenseLine) (r : Line) : (s.setSense l r).sizes = s.sizes := by
  unfold State.setSense; dsimp only; (repeat' split) <;> first | rfl | simp

@[simp] theorem State.setStopIn_sizes (r : Line) : (s.setStopIn r).sizes = s.sizes := rfl

@[simp] theorem rawChange_sizes (l : SenseLine) (v : Bool) : (rawChange l v s).sizes = s.sizes := by
  unfold rawChange; dsimp only; (repeat' split) <;> simp

@[simp] theorem stopAsserted_sizes : (stopAsserted s).sizes = s.sizes := by
  unfold stopAsserted; split <;> simp

@[simp] theorem stopChange_sizes (v : Bool) : (stopChange v s).sizes = s.sizes := by
  unfold stopChange; dsimp only; (repeat' split) <;> simp

@[simp] theorem lineEvent_sizes (l : SenseLine) (v : Bool) : (lineEvent l v s).sizes = s.sizes := by
  unfold lineEvent; (repeat' split) <;> simp

@[simp] theorem steadyExpiry_sizes (l : InLine) : (steadyExpiry l s).sizes = s.sizes := by
  unfold steadyExpiry; (repeat' split) <;> simp

@[simp] theorem stuckExpiry_sizes (k : Nat) : (stuckExpiry k s).sizes = s.sizes := by
  unfold stuckExpiry; split <;> simp

/-! ### Timers -/

@[simp] theorem takeExpiry_sizes (n : Node) : (takeExpiry n s).sizes = s.sizes := by
  unfold takeExpiry; split <;> simp

@[simp] theorem locateExpiry_sizes : (locateExpiry s).sizes = s.sizes := by
  unfold locateExpiry; split <;> simp

@[simp] theorem headExpiry_sizes (h : Head) : (headExpiry h s).sizes = s.sizes := by
  unfold headExpiry; split <;> simp

@[simp] theorem toolExpiry_sizes (h : Head) : (toolExpiry h s).sizes = s.sizes := by
  unfold toolExpiry; (repeat' split) <;> simp

@[simp] theorem pickExpiry_sizes : (pickExpiry s).sizes = s.sizes := by
  unfold pickExpiry; (repeat' split) <;> simp

@[simp] theorem pickerExpiry_sizes : (pickerExpiry s).sizes = s.sizes := by
  unfold pickerExpiry; (repeat' split) <;> simp

@[simp] theorem indexExpiry_sizes : (indexExpiry s).sizes = s.sizes := by
  unfold indexExpiry; split <;> simp

@[simp] theorem confirmExpiry_sizes : (confirmExpiry s).sizes = s.sizes := by
  unfold confirmExpiry; (repeat' split) <;> simp

@[simp] theorem silenceExpiry_sizes : (silenceExpiry s).sizes = s.sizes := by
  unfold silenceExpiry; split <;> simp

@[simp] theorem contactExpiry_sizes (n : Node) : (contactExpiry n s).sizes = s.sizes := by
  unfold contactExpiry; split <;> simp

/-! ### A step -/

variable {s}

/-- The sizes the manual gives the tables. -/
theorem shape_iff : s.shape = true ↔ s.sizes = (8, 8, 4, 4, 42, 20) := by
  simp [State.shape, State.sizes, and_assoc]

/-- Power-on, and the release of RESET_IN, give every table its size; the lane sensors keep theirs (R154). -/
theorem startPart_shape (straps : Nat) (h : s.lines.lanes.length = 4) : (startPart straps s).shape = true := by
  rw [shape_iff]
  have lanes : (startPart straps s).lines.lanes.length = 4 := by
    simp [startPart, Lines.started, Lines.held, h]
  exact congrArg (fun n => (8, 8, 4, n, 42, 20)) lanes

/-- RESET_IN held gives every table its size; the lane sensors keep theirs (R154). -/
theorem holdPart_shape (h : s.lines.lanes.length = 4) : (holdPart s).shape = true := by
  rw [shape_iff]
  have lanes : (holdPart s).lines.lanes.length = 4 := by simp [holdPart, Lines.held, h]
  exact congrArg (fun n => (8, 8, 4, n, 42, 20)) lanes

/-- A command keeps every table's size, or starts or holds the part (R154). -/
theorem exec_sizes {c : Instr} {t : State} (h : exec c s = .next t) :
    t.sizes = s.sizes ∨ (∃ straps, t = startPart straps s) ∨ t = holdPart s := by
  cases hr : requestOf c with
  | some r =>
    rw [exec_request hr] at h
    cases h
    exact .inl (submit_sizes s r)
  | none =>
    cases c
    case powerOn straps => cases h; exact .inr (.inl ⟨_, rfl⟩)
    case resetInAsserted => cases h; exact .inr (.inr rfl)
    case resetInReleased straps =>
      cases h
      split
      · exact .inr (.inl ⟨_, rfl⟩)
      · exact .inl rfl
    all_goals first
      | (cases hr; done)
      | (cases h; left; (repeat' split) <;> simp)

/-- Settles O4: a command keeps the sizes or resets the part, and so does the part's own request. -/
theorem stepKeepsShape : Obligations.StepKeepsShape := by
  intro s t hs h
  unfold step at h
  split at h
  · next c rest _ =>
    have hs' : ({ s with pending := rest } : State).shape = true := hs
    have lanes : s.lines.lanes.length = 4 := by
      have sizes := shape_iff.1 hs
      simp only [State.sizes, Prod.mk.injEq] at sizes
      obtain ⟨-, -, -, hl, -, -⟩ := sizes
      exact hl
    rcases exec_sizes h with hsize | ⟨straps, rfl⟩ | rfl
    · exact shape_iff.2 (hsize.trans (shape_iff.1 hs'))
    · exact startPart_shape straps lanes
    · exact holdPart_shape lanes
  · cases h
    exact shape_iff.2 ((handleFront_sizes s).trans (shape_iff.1 hs))

end Sys2Proof.Machine
end

section
/-! What stays fixed of the active panel and its tables while the tracker, the dispatcher and the picker work on them between the
end of an expansion and the end of its event: one lemma for each operation of that chain. -/

namespace Sys2Proof.Machine

/-! ### What is fixed -/

/-- A panel record without its tally. -/
def Panel.fixed (p : Panel) : Panel := { p with tally := ⟨0, 0, 0, 0⟩ }

/-- What of a tab entry the walk and the mapping pass give it (R20, R38, R39): all but how its cutting goes. -/
def Tab.fixed (t : Tab) : Tab :=
  { t with
    attempts := 0, state := .pending, skipReason := none, standing := false, place := none, cutHead := none
    settlement := none, lastCut := none, peak := none }

/-- What of a board entry the walk and the mapping pass give it (R19, R38, R39): all but how its picking goes. -/
def Board.fixed (b : Board) : Board := { b with state := .attached, openTabs := 0, attempts := 0, dest := none }

/-- What the chain leaves of the active panel, of the half a closing panel holds, of the active locator record, and of the
entries of the tab table and of one half of the board table. -/
structure Outline where
  panel : Option Panel
  closing : Option Half
  loc : LocRec
  tabs : List Tab
  boards : List Board

/-- One half of the board table. -/
def Tracker.half (t : Tracker) : Half → List Board
  | .h0 => t.half0
  | .h1 => t.half1

theorem State.half_eq (s : State) (h : Half) : s.half h = s.tracker.half h := by cases h <;> rfl

/-- The outline of a state, for one half of the board table. -/
def State.outline (s : State) (h : Half) : Outline :=
  { panel := s.tracker.active.map Panel.fixed, closing := s.tracker.closing.map Panel.half, loc := s.locator.active
    tabs := s.disp.tabs.map Tab.fixed, boards := (s.tracker.half h).map Board.fixed }

/-! ### Operations that touch neither tracker nor dispatcher nor locator -/

section
variable (s : State)

@[simp] theorem writePicker_frame (k : PickerOrder) (o : Order) : (writePicker k o s).tracker = s.tracker ∧
    (writePicker k o s).disp = s.disp ∧ (writePicker k o s).locator = s.locator := ⟨rfl, rfl, rfl⟩

@[simp] theorem writeIndex_frame (k i : Nat) : (writeIndex k i s).tracker = s.tracker ∧
    (writeIndex k i s).disp = s.disp ∧ (writeIndex k i s).locator = s.locator := ⟨rfl, rfl, rfl⟩

@[simp] theorem releaseSlot_frame (d : Dest) : (releaseSlot d s).tracker = s.tracker ∧
    (releaseSlot d s).disp = s.disp ∧ (releaseSlot d s).locator = s.locator := by
  unfold releaseSlot; (repeat' split) <;> simp

@[simp] theorem releaseContingency_frame : (releaseContingency s).tracker = s.tracker ∧
    (releaseContingency s).disp = s.disp ∧ (releaseContingency s).locator = s.locator := by
  unfold releaseContingency; (repeat' split) <;> simp

@[simp] theorem reserveBin_frame : (reserveBin s).tracker = s.tracker ∧
    (reserveBin s).disp = s.disp ∧ (reserveBin s).locator = s.locator := by
  unfold reserveBin; dsimp only; split <;> simp

@[simp] theorem giveUpBin_frame (r : Board) : (giveUpBin r s).tracker = s.tracker ∧
    (giveUpBin r s).disp = s.disp ∧ (giveUpBin r s).locator = s.locator := by
  unfold giveUpBin; split <;> simp

@[simp] theorem writeRetract_frame : (writeRetract s).tracker = s.tracker ∧
    (writeRetract s).disp = s.disp ∧ (writeRetract s).locator = s.locator := by
  unfold writeRetract; split <;> simp

@[simp] theorem writeReindex_frame : (writeReindex s).tracker = s.tracker ∧
    (writeReindex s).disp = s.disp ∧ (writeReindex s).locator = s.locator := by
  unfold writeReindex; (repeat' split) <;> simp

@[simp] theorem writeLift_frame : (writeLift s).tracker = s.tracker ∧
    (writeLift s).disp = s.disp ∧ (writeLift s).locator = s.locator := by
  unfold writeLift; (repeat' split) <;> simp

@[simp] theorem writePlace_frame : (writePlace s).tracker = s.tracker ∧
    (writePlace s).disp = s.disp ∧ (writePlace s).locator = s.locator := by
  unfold writePlace; (repeat' split) <;> simp

@[simp] theorem writeDue_frame : (writeDue s).tracker = s.tracker ∧
    (writeDue s).disp = s.disp ∧ (writeDue s).locator = s.locator := by
  simp [writeDue]

@[simp] theorem withdraw_frame : (withdraw s).tracker = s.tracker ∧
    (withdraw s).disp = s.disp ∧ (withdraw s).locator = s.locator := by
  unfold withdraw; dsimp only; (repeat' split) <;> simp

@[simp] theorem evalPairing_frame : (evalPairing s).tracker = s.tracker ∧ (evalPairing s).locator = s.locator ∧
    (evalPairing s).disp.tabs = s.disp.tabs ∧ (evalPairing s).disp.heads = s.disp.heads := by
  unfold evalPairing; dsimp only; (repeat' split) <;> simp

end

/-- What the outline is read from. -/
theorem State.outline_congr {s t : State} (h : Half) (ht : t.tracker = s.tracker) (hd : t.disp.tabs = s.disp.tabs)
    (hl : t.locator = s.locator) : t.outline h = s.outline h := by
  simp [State.outline, ht, hd, hl]

section
variable (s : State) (h : Half)

/-- A list changed at one entry, seen through a view that the change leaves. -/
theorem map_modify_of_fixed {α β : Type} (l : List α) (i : Nat) {f : α → α} {g : α → β} (hf : ∀ a, g (f a) = g a) :
    (l.modify i f).map g = l.map g := by
  induction l generalizing i with
  | nil => simp
  | cons a l ih => cases i <;> simp [hf, ih]

@[simp] theorem raise_outline (d : Detail) : (raise d s).outline h = s.outline h := rfl

@[simp] theorem clearMarks_outline : (clearMarks s).outline h = s.outline h := rfl

@[simp] theorem leavePickQueue_outline (b : Nat) : (leavePickQueue b s).outline h = s.outline h := by
  cases h <;> rfl

@[simp] theorem joinPickBack_outline (b : Nat) : (joinPickBack b s).outline h = s.outline h := by
  cases h <;> rfl

@[simp] theorem reserveBin_outline : (reserveBin s).outline h = s.outline h := by simp [State.outline]

@[simp] theorem giveUpBin_outline (r : Board) : (giveUpBin r s).outline h = s.outline h := by simp [State.outline]

@[simp] theorem writeDue_outline : (writeDue s).outline h = s.outline h := by simp [State.outline]

@[simp] theorem withdraw_outline : (withdraw s).outline h = s.outline h := by simp [State.outline]

@[simp] theorem evalPairing_outline : (evalPairing s).outline h = s.outline h := by simp [State.outline]

theorem State.modTab_outline (i : Nat) {f : Tab → Tab} (hf : ∀ t, (f t).fixed = t.fixed) :
    (s.modTab i f).outline h = s.outline h := by
  simp [State.outline, State.modTab, map_modify_of_fixed _ _ hf]

theorem State.modPanel_outline {f : Panel → Panel} (hf : ∀ p, (f p).fixed = p.fixed) :
    (s.modPanel .active f).outline h = s.outline h := by
  have panel : (s.tracker.active.map f).map Panel.fixed = s.tracker.active.map Panel.fixed := by
    rw [Option.map_map]; exact congrArg (Option.map · _) (funext hf)
  have same : ((s.modPanel .active f).tracker).half h = s.tracker.half h := by cases h <;> rfl
  simp only [State.outline, same]
  exact congrArg (fun x => Outline.mk x _ _ _ _) panel

theorem State.modBoard_outline (b : Nat) {f : Board → Board} (hf : ∀ r, (f r).fixed = r.fixed) :
    (s.modBoard .active b f).outline h = s.outline h := by
  unfold State.modBoard
  split
  · next p _ =>
    have boards : (((s.setHalf p.half ((s.half p.half).modify b f)).tracker).half h).map Board.fixed =
        (s.tracker.half h).map Board.fixed := by
      cases hp : p.half <;> cases h <;> first | rfl | exact map_modify_of_fixed _ _ hf
    simp only [State.outline, boards]
    cases p.half <;> rfl
  · rfl

@[simp] theorem setBoardState_outline (b : Nat) (st : BoardState) :
    (setBoardState .active b st s).outline h = s.outline h := s.modBoard_outline h b fun _ => rfl

@[simp] theorem lowerBoard_outline (b : Nat) : (lowerBoard b s).outline h = s.outline h :=
  s.modBoard_outline h b fun _ => rfl

@[simp] theorem lowerCounts_outline (t : Tab) : (lowerCounts t s).outline h = s.outline h := by
  unfold lowerCounts; split <;> simp

@[simp] theorem markSkipped_outline (i : Nat) (w : SkipReason) : (markSkipped i w s).outline h = s.outline h := by
  unfold markSkipped; split
  · exact (lowerCounts_outline ..).trans ((leaveLists i s).modTab_outline h i fun _ => rfl)
  · rfl

@[simp] theorem skipTab_outline (i : Nat) : (skipTab i s).outline h = s.outline h := by
  unfold skipTab; (repeat' split) <;> first | rfl | exact markSkipped_outline .. | exact s.modTab_outline h i fun _ => rfl

@[simp] theorem skipFor_outline (b i : Nat) : (skipFor b s i).outline h = s.outline h := by
  unfold skipFor; (repeat' split) <;> simp

/-- A fold of operations that each keep the outline keeps it. -/
theorem foldl_outline {α : Type} (f : State → α → State) (hf : ∀ s a, (f s a).outline h = s.outline h) (l : List α) :
    (l.foldl f s).outline h = s.outline h := by
  induction l generalizing s with
  | nil => rfl
  | cons a l ih => rw [List.foldl_cons, ih, hf]

@[simp] theorem skipTabsOf_outline (b : Nat) : (skipTabsOf b s).outline h = s.outline h := by
  simp [skipTabsOf, foldl_outline]

@[simp] theorem retainNow_outline (b : Nat) (w : RetainReason) : (retainNow b w s).outline h = s.outline h := by
  have counted (s : State) : (s.modPanel .active Panel.countRetained).outline h = s.outline h :=
    s.modPanel_outline h fun _ => rfl
  unfold retainNow; dsimp only; (repeat' split) <;> simp [counted]

@[simp] theorem retain_outline (b : Nat) (w : RetainReason) : (retain b w s).outline h = s.outline h := by
  unfold retain; split <;> simp

@[simp] theorem retainJoined_outline (t : Tab) (w : RetainReason) : (retainJoined t w s).outline h = s.outline h := by
  unfold retainJoined; split <;> simp

@[simp] theorem retainAll_outline (w : RetainReason) : (retainAll w s).outline h = s.outline h := by
  simp [retainAll, foldl_outline]

@[simp] theorem retainMarkedTab_outline (i : Nat) : (retainMarkedTab s i).outline h = s.outline h := by
  unfold retainMarkedTab; (repeat' split) <;> simp

@[simp] theorem retainMarkedBoard_outline (b : Nat) : (retainMarkedBoard s b).outline h = s.outline h := by
  unfold retainMarkedBoard; (repeat' split) <;> simp

@[simp] theorem retainMarked_outline : (retainMarked s).outline h = s.outline h := by
  simp [retainMarked, foldl_outline]

@[simp] theorem testReady_outline (b : Nat) : (testReady b s).outline h = s.outline h := by
  have toBin (s : State) : (s.modBoard .active b fun r => { r with state := .ready, dest := some .bin }).outline h =
      s.outline h := s.modBoard_outline h b fun _ => rfl
  unfold testReady; (repeat' split) <;> simp [toBin]

@[simp] theorem testAllReady_outline : (testAllReady s).outline h = s.outline h := by
  simp [testAllReady, foldl_outline]

@[simp] theorem putTab_outline (i : Nat) (p : Place) (front : Bool) : (putTab i p front s).outline h = s.outline h := by
  unfold putTab; dsimp only
  split <;> exact (s.modTab_outline h i fun _ => rfl)

@[simp] theorem reachTab_outline (i : Nat) : (reachTab s i).outline h = s.outline h := by
  unfold reachTab; (repeat' split) <;> simp

@[simp] theorem buildRelease_outline (i : Nat) : (buildRelease s i).outline h = s.outline h := by
  unfold buildRelease
  (repeat' split) <;> first | rfl | exact markSkipped_outline .. | exact s.modTab_outline h i fun _ => rfl

@[simp] theorem buildTab_outline (k : TabKind) (i : Nat) : (buildTab k s i).outline h = s.outline h := by
  unfold buildTab; (repeat' split) <;> simp

@[simp] theorem buildQueues_outline : (buildQueues s).outline h = s.outline h := by
  simp [buildQueues, foldl_outline]

/-- A selection takes the board out of the pick queue to GRIP_WAIT; the rest is the picker's and the elevator's (R125). -/
theorem selectBoard_eq (b : Nat) (r : Board) (d : Dest) : ∃ u : State,
    selectBoard b r d s =
      (leavePickQueue b u).modBoard .active b (fun r => { r with state := .gripWait, dest := some d }) ∧
    u.tracker = s.tracker ∧ u.disp = s.disp ∧ u.locator = s.locator := by
  cases d <;> exact ⟨_, rfl, rfl, rfl, rfl⟩

@[simp] theorem selectBoard_outline (b : Nat) (r : Board) (d : Dest) : (selectBoard b r d s).outline h = s.outline h := by
  obtain ⟨u, e, ht, hd, hl⟩ := selectBoard_eq s b r d
  rw [e]
  have moved : ((leavePickQueue b u).modBoard .active b fun r => { r with state := .gripWait, dest := some d }).outline h =
      (leavePickQueue b u).outline h := State.modBoard_outline _ h b fun _ => rfl
  calc _ = (leavePickQueue b u).outline h := moved
    _ = u.outline h := leavePickQueue_outline u h b
    _ = s.outline h := State.outline_congr h ht (congrArg Dispatcher.tabs hd) hl

@[simp] theorem scanQueue_outline (l : List Nat) : (scanQueue l s).outline h = s.outline h := by
  induction l generalizing s with
  | nil => rfl
  | cons b l ih => unfold scanQueue; (repeat' split) <;> simp [ih]

@[simp] theorem trySelect_outline : (trySelect s).outline h = s.outline h := by
  unfold trySelect; split <;> simp

@[simp] theorem selectIfAsked_outline : (selectIfAsked s).outline h = s.outline h := by
  unfold selectIfAsked; split <;> simp

@[simp] theorem releaseOrdered_outline (t : Tab) : (releaseOrdered t s).outline h = s.outline h := by
  unfold releaseOrdered; split <;> simp

@[simp] theorem issueCut_outline (k : Head) (i : Nat) : (issueCut k i s).outline h = s.outline h := by
  unfold issueCut; split
  · rfl
  · rw [releaseOrdered_outline]
    exact (leaveLists i s).modTab_outline h i fun _ => rfl

@[simp] theorem issuePark_outline (k : Head) : (issuePark k s).outline h = s.outline h := rfl

@[simp] theorem arbiter_outline (k : Head) : (arbiter k s).outline h = s.outline h := by
  unfold arbiter; (repeat' split) <;> simp

@[simp] theorem runArbiter_outline : (runArbiter s).outline h = s.outline h := by
  simp [runArbiter]

end

end Sys2Proof.Machine
end

section
/-! What the close of an event does to the active panel and its tables (R48, R50, R85, R123, R129), and the panel's states at the
end of an expansion (R45, R46, R47, R52). -/

namespace Sys2Proof.Machine

variable (s : State) (h : Half)

/-! ### Reading the outline -/

/-- The active panel of a state with the outline of a known one. -/
theorem active_of_outline {t : State} {p : Panel} (h : Half) (hp : (t.outline h).panel = some p.fixed) :
    ∃ q, t.tracker.active = some q ∧ q.fixed = p.fixed := by
  obtain ⟨q, hq, e⟩ := Option.map_eq_some_iff.1 hp
  exact ⟨q, hq, e⟩

/-- A panel known but for its tally has its id, its expansion mark and its state. -/
theorem Panel.fixed_fields {p q : Panel} (h : q.fixed = p.fixed) :
    q.id = p.id ∧ q.expanding = p.expanding ∧ q.state = p.state ∧ q.stop = p.stop ∧ q.half = p.half := by
  simp only [Panel.fixed, Panel.mk.injEq] at h
  obtain ⟨hid, -, -, hst, -, -, hh, he, -, -, hs, -⟩ := h
  exact ⟨hid, he, hst, hs, hh⟩

/-! ### The panel's states -/

/-- The active panel made DONE (R48, R52). -/
theorem panelDone_outline : (panelDone s).outline h =
    { s.outline h with panel := (s.outline h).panel.map fun p => { p with state := .done } } := by
  have panel : (s.tracker.active.map fun p => { p with state := .done }).map Panel.fixed =
      (s.tracker.active.map Panel.fixed).map fun p => { p with state := .done } := by
    cases s.tracker.active <;> rfl
  have same : (panelDone s).tracker.half h = s.tracker.half h := by cases h <;> rfl
  simp only [State.outline, same]
  exact congrArg (fun x => Outline.mk x _ _ _ _) panel

/-- The DONE test moves a CUTTING panel at most (R48). -/
theorem testDone_outline : (testDone s).outline h = s.outline h ∨
    (s.cutting = true ∧ (testDone s).outline h =
      { s.outline h with panel := (s.outline h).panel.map fun p => { p with state := .done } }) := by
  unfold testDone
  split
  · next hd =>
    rw [Bool.and_eq_true] at hd
    exact .inr ⟨hd.1, panelDone_outline s h⟩
  · exact .inl rfl

@[simp] theorem testDone_frame : (testDone s).tracker.closing = s.tracker.closing ∧ (testDone s).disp = s.disp ∧
    (testDone s).locator = s.locator ∧ (testDone s).ev = s.ev ∧ (testDone s).tracker.half0 = s.tracker.half0 ∧
      (testDone s).tracker.half1 = s.tracker.half1 := by
  unfold testDone panelDone
  split <;> exact ⟨rfl, rfl, rfl, rfl, rfl, rfl⟩

/-- A CLOSING panel closes at most, and it frees its own half of the board table then (R50). -/
theorem testClose_cases : testClose s = s ∨ ∃ p, s.tracker.closing = some p ∧
    (testClose s).tracker.active = s.tracker.active ∧ (testClose s).disp.tabs = s.disp.tabs ∧
    (testClose s).disp.heads = s.disp.heads ∧ (testClose s).locator.active = s.locator.active ∧ (testClose s).ev = s.ev ∧
    ∀ h, (testClose s).tracker.half h = if h = p.half then [] else s.tracker.half h := by
  cases hp : s.tracker.closing with
  | none => exact .inl (by simp [testClose, hp])
  | some p =>
    by_cases ht : s.inTransit .closing = true
    · exact .inl (by simp [testClose, hp, ht])
    · refine .inr ⟨p, rfl, ?_⟩
      simp only [testClose, hp, ht, closePanel, State.panel]
      cases hh : p.half <;> refine ⟨rfl, rfl, rfl, rfl, rfl, fun h => ?_⟩ <;> cases h <;> rfl

@[simp] theorem testClose_frame : (testClose s).tracker.active = s.tracker.active ∧ (testClose s).disp.tabs = s.disp.tabs ∧
    (testClose s).disp.heads = s.disp.heads ∧ (testClose s).locator.active = s.locator.active ∧ (testClose s).ev = s.ev := by
  rcases testClose_cases s with e | ⟨_, _, ha, ht, hh, hl, he, _⟩
  · rw [e]; exact ⟨rfl, rfl, rfl, rfl, rfl⟩
  · exact ⟨ha, ht, hh, hl, he⟩

/-- The other half of the board table stays when a closing panel closes (R50). -/
theorem testClose_half (apart : ∀ c, s.tracker.closing = some c → c.half ≠ h) :
    (testClose s).tracker.half h = s.tracker.half h := by
  rcases testClose_cases s with e | ⟨p, hp, -, -, -, -, -, half⟩
  · rw [e]
  · rw [half, if_neg (apart p hp).symm]

/-! ### The close of an event -/

@[simp] theorem writeDue_ev : (writeDue s).ev = s.ev := by
  have retract (s : State) : (writeRetract s).ev = s.ev := by unfold writeRetract; split <;> rfl
  have reindex (s : State) : (writeReindex s).ev = s.ev := by unfold writeReindex; (repeat' split) <;> rfl
  have lift (s : State) : (writeLift s).ev = s.ev := by unfold writeLift; (repeat' split) <;> rfl
  have place (s : State) : (writePlace s).ev = s.ev := by unfold writePlace; (repeat' split) <;> rfl
  rw [writeDue, place, lift, reindex, retract]

/-- What the close of an event leaves of the outline: the panel may become DONE from CUTTING (R48), and the half of a closing
panel may be freed (R50). -/
theorem settle_outline : ((settle s).outline h).loc = (s.outline h).loc ∧ ((settle s).outline h).tabs = (s.outline h).tabs ∧
    ((∀ c, s.tracker.closing = some c → c.half ≠ h) → ((settle s).outline h).boards = (s.outline h).boards) ∧
    (((settle s).outline h).panel = (s.outline h).panel ∨ (s.cutting = true ∧
      ((settle s).outline h).panel = (s.outline h).panel.map fun p => { p with state := .done })) := by
  have tail : (settle s).outline h = (testClose (testDone s)).outline h := by simp [settle]
  rw [tail]
  refine ⟨by simp [State.outline], by simp [State.outline], fun apart => ?_, ?_⟩
  · have close := testClose_half (testDone s) h (by simpa using apart)
    have done : (testDone s).tracker.half h = s.tracker.half h := by cases h <;> simp [Tracker.half]
    simp only [State.outline, close, done]
  · have panel : ((testClose (testDone s)).outline h).panel = ((testDone s).outline h).panel := by simp [State.outline]
    rw [panel]
    rcases testDone_outline s h with e | ⟨hc, e⟩
    · exact .inl (by rw [e])
    · exact .inr ⟨hc, by rw [e]⟩

/-- Where no panel is CUTTING the arbiter issues nothing (R88). -/
theorem arbiter_of_not_cutting {s : State} (hc : s.cutting = false) (k : Head) : arbiter k s = s :=
  if_neg (by simp [State.cutsAllowed, hc])

/-- An event that closes with no panel CUTTING and no selection asked for leaves the active panel and its tables as they are
(R48, R50, R85, R123). -/
theorem settle_quiet {s : State} (hc : s.cutting = false) (hev : s.ev.select = false) :
    (settle s).tracker.active = s.tracker.active ∧ (settle s).disp.tabs = s.disp.tabs ∧
      ∀ h, (∀ c, s.tracker.closing = some c → c.half ≠ h) → (settle s).tracker.half h = s.tracker.half h := by
  have done : testDone s = s := if_neg (by simp [hc])
  have asked : selectIfAsked (writeDue (testClose s)) = writeDue (testClose s) := if_neg (by simp [hev])
  have idle : (writeDue (testClose s)).cutting = false := by
    simpa [State.cutting] using hc
  have run : settle s = clearMarks (writeDue (testClose s)) := by
    rw [settle, done, asked, runArbiter, arbiter_of_not_cutting idle, arbiter_of_not_cutting idle,
      arbiter_of_not_cutting idle, arbiter_of_not_cutting idle]
  rw [run]
  refine ⟨by simp, by simp, fun h apart => ?_⟩
  rw [clearMarks_tracker, (writeDue_frame _).1, testClose_half s h apart]

end Sys2Proof.Machine
end

section
/-! What the retentions, the queue building, the readiness tests and the close of an event may do to the tab entries, the heads'
queues and the active panel's boards (R47, R57 to R61, R71, R78, R85, R89, R123): rules on single entries that every operation of
the chain keeps. -/

namespace Sys2Proof.Machine

/-! ### Rules on entries -/

/-- A tab entry after a skip (R71). -/
def Tab.skipped (why : SkipReason) (t : Tab) : Tab :=
  { t with state := .skipped, skipReason := some why, standing := false, place := none, cutHead := none, settlement := none }

/-- A rule on tab entries, by index, and one on the indices in the heads' queues, that a skip (R71) and a CUT (R89) keep. FRAME
tabs are linked to no board (R6). -/
structure TabRule (P : Nat → Tab → Prop) (G : Nat → Prop) : Prop where
  frame : ∀ {i x}, P i x → x.kind = .frame → x.linked = none
  skip : ∀ {i x} w, P i x → P i (x.skipped w)
  stand : ∀ {i x}, P i x → P i { x with standing := true }
  order : ∀ {i x} k, P i x → G i → P i { x with state := .ordered, place := none, cutHead := some k }

/-- A rule on board entries, by index, that a board which left ATTACHED meets. -/
def BoardRule (B : Nat → Board → Prop) : Prop := ∀ i r, r.state ≠ .attached → B i r

/-- The entries meet their rules. -/
structure Meets (P : Nat → Tab → Prop) (G : Nat → Prop) (B : Nat → Board → Prop) (s : State) : Prop where
  tabs : ∀ i x, s.tab i = some x → P i x
  queues : ∀ k, ∀ i ∈ (s.head k).queue, G i
  boards : ∀ b r, s.board .active b = some r → B b r

/-- State t comes from state s by operations that keep every rule. -/
def Follows (s t : State) : Prop :=
  ∀ ⦃P G B⦄, TabRule P G → BoardRule B → Meets P G B s → Meets P G B t

theorem Follows.refl (s : State) : Follows s s := fun _ _ _ _ _ m => m

theorem Follows.trans {s t u : State} (h : Follows s t) (k : Follows t u) : Follows s u :=
  fun _ _ _ hp hb m => k hp hb (h hp hb m)

theorem Follows.of_eq {s t : State} (h : t = s) : Follows s t := h ▸ Follows.refl s

/-- A fold of operations that keep every rule keeps every rule. -/
theorem Follows.foldl {α : Type} {f : State → α → State} (hf : ∀ s a, Follows s (f s a)) (s : State) (l : List α) :
    Follows s (l.foldl f s) := by
  induction l generalizing s with
  | nil => exact .refl s
  | cons a l ih => exact (hf s a).trans (ih _)

/-- What the rules read of a state. -/
theorem Meets.congr {P G B} {s t : State} (m : Meets P G B s) (ht : t.disp.tabs = s.disp.tabs)
    (hh : t.disp.heads = s.disp.heads) (hb : t.boards .active = s.boards .active) : Meets P G B t where
  tabs i x hx := m.tabs i x (by rwa [State.tab, ← ht])
  queues k i hi := m.queues k i (by rwa [State.head, ← hh])
  boards b r hr := m.boards b r (by rwa [State.board, ← hb])

theorem Follows.of_same {s t : State} (ht : t.disp.tabs = s.disp.tabs) (hh : t.disp.heads = s.disp.heads)
    (hb : t.boards .active = s.boards .active) : Follows s t := fun _ _ _ _ _ m => m.congr ht hh hb

/-- An operation that touches neither the tracker nor the dispatcher keeps every rule. -/
theorem Follows.of_frame {s t : State} (ht : t.tracker = s.tracker) (hd : t.disp = s.disp) : Follows s t := by
  refine .of_same (by rw [hd]) (by rw [hd]) ?_
  have half (h : Half) : t.half h = s.half h := by rw [t.half_eq, s.half_eq, ht]
  simp only [State.boards, State.panel, ht, half]

section
variable (s : State)

/-! ### Tab and board entries changed -/

theorem State.modTab_tab (i j : Nat) (f : Tab → Tab) :
    (s.modTab i f).tab j = if i = j then (s.tab j).map f else s.tab j := by
  simp only [State.tab, State.modTab, List.getElem?_modify]
  split <;> simp

/-- A tab entry changed to one that meets the rule. -/
theorem Meets.modTab {P G B} {s : State} (m : Meets P G B s) (i : Nat) {f : Tab → Tab}
    (hf : ∀ x, s.tab i = some x → P i (f x)) : Meets P G B (s.modTab i f) where
  tabs j y hy := by
    rw [State.modTab_tab] at hy
    split at hy
    · next h =>
      subst h
      obtain ⟨x, hx, rfl⟩ := Option.map_eq_some_iff.1 hy
      exact hf x hx
    · exact m.tabs j y hy
  queues := m.queues
  boards := m.boards

theorem State.setHalf_half (h k : Half) (l : List Board) : (s.setHalf h l).half k = if h = k then l else s.half k := by
  cases h <;> cases k <;> rfl

theorem State.setHalf_panel (h : Half) (l : List Board) (ref : PanelRef) : (s.setHalf h l).panel ref = s.panel ref := by
  cases h <;> cases ref <;> rfl

theorem State.modBoard_boards (b : Nat) (f : Board → Board) :
    (s.modBoard .active b f).boards .active = (s.boards .active).modify b f := by
  unfold State.modBoard State.boards
  cases hp : s.panel .active with
  | none => simp [hp]
  | some p => simp [State.setHalf_panel, hp, State.setHalf_half]

theorem State.modBoard_board (b j : Nat) (f : Board → Board) :
    (s.modBoard .active b f).board .active j = if b = j then (s.board .active j).map f else s.board .active j := by
  simp only [State.board, State.modBoard_boards, List.getElem?_modify]
  split <;> simp

theorem State.modBoard_disp (ref : PanelRef) (b : Nat) (f : Board → Board) : (s.modBoard ref b f).disp = s.disp := by
  unfold State.modBoard State.setHalf
  (repeat' split) <;> rfl

/-- A board entry changed to one that meets the rule. -/
theorem Meets.modBoard {P G B} {s : State} (m : Meets P G B s) (b : Nat) {f : Board → Board}
    (hf : ∀ r, s.board .active b = some r → B b (f r)) : Meets P G B (s.modBoard .active b f) where
  tabs i x hx := m.tabs i x (by rwa [State.tab, State.modBoard_disp] at hx)
  queues k i hi := m.queues k i (by rwa [State.head, State.modBoard_disp] at hi)
  boards j y hy := by
    rw [State.modBoard_board] at hy
    split at hy
    · next h =>
      subst h
      obtain ⟨r, hr, rfl⟩ := Option.map_eq_some_iff.1 hy
      exact hf r hr
    · exact m.boards j y hy

/-- A board that leaves ATTACHED keeps every rule. -/
theorem modBoard_follows (b : Nat) {f : Board → Board} (hf : ∀ r, (f r).state ≠ .attached) :
    Follows s (s.modBoard .active b f) := fun _ _ _ _ hb m => m.modBoard b fun r _ => hb b _ (hf r)

theorem setBoardState_follows (b : Nat) {st : BoardState} (hst : st ≠ .attached) : Follows s (setBoardState .active b st s) :=
  modBoard_follows s b fun _ => hst

theorem modPanel_boards {f : Panel → Panel} (hf : ∀ p, (f p).half = p.half) :
    (s.modPanel .active f).boards .active = s.boards .active := by
  have half (h : Half) : (s.modPanel .active f).half h = s.half h := by cases h <;> rfl
  have panel : (s.modPanel .active f).panel .active = (s.panel .active).map f := rfl
  unfold State.boards
  rw [panel]
  cases s.panel .active with
  | none => rfl
  | some p => simp [half, hf]

theorem modPanel_follows {f : Panel → Panel} (hf : ∀ p, (f p).half = p.half) : Follows s (s.modPanel .active f) :=
  .of_same rfl rfl (modPanel_boards s hf)

/-! ### Operations beside the tables -/

theorem boards_of_pickQueue (l : List Nat) :
    State.boards { s with tracker := { s.tracker with pickQueue := l } } .active = s.boards .active := by
  unfold State.boards State.panel State.half
  rfl

theorem leavePickQueue_follows (b : Nat) : Follows s (leavePickQueue b s) := .of_same rfl rfl (boards_of_pickQueue s _)

theorem joinPickBack_follows (b : Nat) : Follows s (joinPickBack b s) := .of_same rfl rfl (boards_of_pickQueue s _)

/-- A tab that leaves the queues keeps every rule. -/
theorem leaveLists_follows (i : Nat) : Follows s (leaveLists i s) := fun _ _ _ _ _ m =>
  { tabs := m.tabs
    queues := fun k j hj => m.queues k j (by cases k <;> exact List.mem_of_mem_filter hj)
    boards := m.boards }

/-- A head's record changed without its queue keeps every rule. -/
theorem modHead_follows (k : Head) {f : HeadRec → HeadRec} (hf : ∀ r, (f r).queue = r.queue) : Follows s (s.modHead k f) :=
  fun _ _ _ _ _ m =>
    { tabs := m.tabs
      queues := fun n j hj => m.queues n j (by cases k <;> cases n <;> first | exact hj | exact hf _ ▸ hj)
      boards := m.boards }

/-! ### Skips -/

/-- Board j may be lowered under the rule. -/
def Loose (B : Nat → Board → Prop) (s : State) (j : Nat) : Prop :=
  ∀ r, s.board .active j = some r → ∀ n, B j { r with openTabs := n }

/-- The boards of a tab may be lowered under the rule. -/
def LooseJoined (B : Nat → Board → Prop) (s : State) (t : Tab) : Prop :=
  Loose B s t.owner ∧ ∀ o, t.linked = some o → Loose B s o

variable {s} in
/-- A board that left ATTACHED may be lowered. -/
theorem Loose.of_left {B : Nat → Board → Prop} {j : Nat} (hb : BoardRule B)
    (hj : ∀ r, s.board .active j = some r → r.state ≠ .attached) : Loose B s j :=
  fun r hr _ => hb j _ (hj r hr)

variable {s} in
theorem Loose.lower {B : Nat → Board → Prop} {j : Nat} (hl : Loose B s j) (b : Nat) : Loose B (lowerBoard b s) j := by
  intro y hy n
  rw [lowerBoard, State.modBoard_board] at hy
  split at hy
  · obtain ⟨r, hr, rfl⟩ := Option.map_eq_some_iff.1 hy
    exact hl r hr n
  · exact hl y hy n

variable {s} in
theorem Meets.lower {P G B} (m : Meets P G B s) {b : Nat} (hl : Loose B s b) : Meets P G B (lowerBoard b s) :=
  m.modBoard b fun r hr => hl r hr _

variable {s} in
theorem Meets.lowerCounts {P G B} (m : Meets P G B s) {t : Tab} (hl : LooseJoined B s t) :
    Meets P G B (lowerCounts t s) := by
  unfold Machine.lowerCounts
  split
  · next o ho => exact (m.lower hl.1).lower ((hl.2 o ho).lower t.owner)
  · exact m.lower hl.1

variable {s} in
/-- A skip whose boards may be lowered keeps the rules. -/
theorem Meets.markSkipped {P G B} (m : Meets P G B s) (hp : TabRule P G) (hb : BoardRule B) {i : Nat} (why : SkipReason)
    (hl : ∀ t, s.tab i = some t → LooseJoined B s t) : Meets P G B (markSkipped i why s) := by
  unfold Machine.markSkipped
  split
  · next t ht =>
    have left : Meets P G B (leaveLists i s) := leaveLists_follows s i hp hb m
    have marked := left.modTab i (f := Tab.skipped why) fun x hx => hp.skip why (m.tabs i x hx)
    exact marked.lowerCounts (hl t ht)
  · exact m

variable {s} in
theorem Meets.skipTab {P G B} (m : Meets P G B s) (hp : TabRule P G) (hb : BoardRule B) {i : Nat}
    (hl : ∀ t, s.tab i = some t → LooseJoined B s t) : Meets P G B (skipTab i s) := by
  have stands : Meets P G B (s.modTab i fun t => { t with standing := true }) :=
    m.modTab i fun x hx => hp.stand (m.tabs i x hx)
  unfold Machine.skipTab
  (repeat' split) <;> first | exact m | exact stands | exact m.markSkipped hp hb _ hl

variable {s} in
theorem left_of_isRetained {o : Nat} (h : s.isRetained o = true) :
    ∀ r, s.board .active o = some r → r.state ≠ .attached := by
  intro r hr ha
  simp [State.isRetained, State.boardState, hr, ha] at h

variable {s} in
/-- The skips for a board that left ATTACHED lower only boards that left it (R60): FRAME tabs join one board, and a SHARED tab
is skipped only with both its boards RETAINED. -/
theorem Meets.skipFor {P G B} (m : Meets P G B s) (hp : TabRule P G) (hb : BoardRule B) {b : Nat}
    (gone : ∀ r, B b r → r.state ≠ .attached) (i : Nat) : Meets P G B (skipFor b s i) := by
  have loose : Loose B s b := .of_left hb fun r hr => gone r (m.boards b r hr)
  have retained {o : Nat} (h : s.isRetained o = true) : Loose B s o := .of_left hb (left_of_isRetained h)
  unfold Machine.skipFor
  split
  · next t ht =>
    have skip (hl : LooseJoined B s t) : Meets P G B (Machine.skipTab i s) :=
      m.skipTab hp hb fun x hx => Option.some.inj (ht.symm.trans hx) ▸ hl
    split
    · next kind =>
      have alone : t.linked = none := hp.frame (m.tabs i t ht) kind
      split
      · next own => exact skip ⟨own ▸ loose, fun o ho => by simp [alone] at ho⟩
      · exact m
    · split
      · next own =>
        split
        · next o ho =>
          split
          · next ret => exact skip ⟨own ▸ loose, fun o' ho' => Option.some.inj (ho.symm.trans ho') ▸ retained ret⟩
          · exact m
        · exact m
      · split
        · next both => exact skip ⟨retained both.2, fun o ho => Option.some.inj (both.1.symm.trans ho) ▸ loose⟩
        · exact m
  · exact m

variable {s} in
theorem Meets.skipTabsOf {P G B} (m : Meets P G B s) (hp : TabRule P G) (hb : BoardRule B) {b : Nat}
    (gone : ∀ r, B b r → r.state ≠ .attached) : Meets P G B (skipTabsOf b s) := by
  unfold Machine.skipTabsOf
  generalize List.range s.disp.tabs.length = l
  induction l generalizing s with
  | nil => exact m
  | cons i l ih => exact ih (m.skipFor hp hb gone i)

/-! ### Retention -/

theorem giveUpBin_follows (r : Board) : Follows s (giveUpBin r s) := .of_frame (giveUpBin_frame s r).1 (giveUpBin_frame s r).2.1

theorem withdraw_follows : Follows s (withdraw s) := .of_frame (withdraw_frame s).1 (withdraw_frame s).2.1

/-- A rule on board entries with the demand that board b is no longer ATTACHED. -/
def andLeft (B : Nat → Board → Prop) (b j : Nat) (r : Board) : Prop := B j r ∧ (j = b → r.state ≠ .attached)

theorem BoardRule.andLeft {B : Nat → Board → Prop} (hb : BoardRule B) (b : Nat) : BoardRule (andLeft B b) :=
  fun j r h => ⟨hb j r h, fun _ => h⟩

/-- A retention keeps every rule, and the board it names is no longer ATTACHED (R59). -/
theorem retainNow_meets {P G B} (hp : TabRule P G) (hb : BoardRule B) (m : Meets P G B s) (b : Nat) (why : RetainReason) :
    Meets P G (andLeft B b) (retainNow b why s) := by
  have rule := hb.andLeft b
  unfold retainNow
  split
  · next absent =>
    exact ⟨m.tabs, m.queues, fun j r hr => ⟨m.boards j r hr, fun hj => by simp [hj, absent] at hr⟩⟩
  next r _ =>
  have retained := setBoardState_follows s b (st := .retained why) nofun hp hb m
  have left : Meets P G (andLeft B b) (setBoardState .active b (.retained why) s) :=
    { tabs := retained.tabs, queues := retained.queues
      boards := fun j y hy => ⟨retained.boards j y hy, fun hj ha => by
        rw [setBoardState, State.modBoard_board, if_pos hj.symm] at hy
        obtain ⟨r, -, rfl⟩ := Option.map_eq_some_iff.1 hy
        simp at ha⟩ }
  have counted := modPanel_follows _ (f := Panel.countRetained) (fun _ => rfl) hp rule left
  have given := giveUpBin_follows _ r hp rule (leavePickQueue_follows _ b hp rule counted)
  have skipped := given.skipTabsOf hp rule (b := b) fun r h => h.2 rfl
  dsimp only
  split
  · exact withdraw_follows _ hp rule skipped
  · exact skipped

theorem retainNow_follows (b : Nat) (why : RetainReason) : Follows s (retainNow b why s) := by
  intro P G B hp hb m
  have left := retainNow_meets s hp hb m b why
  exact ⟨left.tabs, left.queues, fun j r hr => (left.boards j r hr).1⟩

theorem retain_follows (b : Nat) (why : RetainReason) : Follows s (retain b why s) := by
  unfold retain
  split <;> first | exact retainNow_follows s b why | exact .refl s

theorem retainJoined_follows (t : Tab) (why : RetainReason) : Follows s (retainJoined t why s) := by
  unfold retainJoined
  split
  · exact (retain_follows ..).trans (retain_follows ..)
  · exact retain_follows ..

theorem retainMarkedTab_follows (i : Nat) : Follows s (retainMarkedTab s i) := by
  unfold retainMarkedTab
  (repeat' split) <;> first | exact .refl s | exact retainJoined_follows ..

theorem retainMarkedBoard_follows (b : Nat) : Follows s (retainMarkedBoard s b) := by
  unfold retainMarkedBoard
  (repeat' split) <;> first | exact .refl s | exact retain_follows ..

theorem retainMarked_follows : Follows s (retainMarked s) :=
  (Follows.foldl retainMarkedBoard_follows s _).trans (Follows.foldl retainMarkedTab_follows _ _)

/-! ### Readiness -/

theorem reserveBin_follows : Follows s (reserveBin s) := .of_frame (reserveBin_frame s).1 (reserveBin_frame s).2.1

theorem raise_follows (d : Detail) : Follows s (raise d s) := .of_same (by simp) (by simp) rfl

theorem testReady_follows (b : Nat) : Follows s (testReady b s) := by
  have toBin : Follows s (s.modBoard .active b fun r => { r with state := .ready, dest := some .bin }) :=
    modBoard_follows s b fun _ => nofun
  unfold testReady
  (repeat' split)
  · exact .refl s
  · exact retain_follows ..
  · exact toBin.trans ((reserveBin_follows _).trans (joinPickBack_follows ..))
  · exact (retain_follows ..).trans (raise_follows ..)
  · exact (setBoardState_follows s b (st := .ready) nofun).trans (joinPickBack_follows ..)
  · exact .refl s

theorem testAllReady_follows : Follows s (testAllReady s) := Follows.foldl (fun s b => testReady_follows s b) s _

/-! ### The close of an event -/

theorem testDone_follows : Follows s (testDone s) := by
  unfold testDone panelDone
  split
  · have done : Follows s (s.modPanel .active fun p => { p with state := .done }) := modPanel_follows s fun _ => rfl
    exact done.trans (raise_follows ..)
  · exact .refl s

theorem testClose_follows : Follows s (testClose s) := by
  rcases testClose_cases s with e | ⟨p, -, active, tabs, heads, -, -, half⟩
  · exact .of_eq e
  · intro P G B _ _ m
    refine ⟨fun i x hx => m.tabs i x (by rwa [State.tab, ← tabs]), fun k i hi => m.queues k i (by rwa [State.head, ← heads]),
      fun b r hr => m.boards b r ?_⟩
    simp only [State.board, State.boards, State.panel, active, State.half_eq, half] at hr ⊢
    cases ha : s.tracker.active with
    | none => simp [ha] at hr
    | some q =>
      simp only [ha] at hr
      split at hr
      · simp at hr
      · exact hr

theorem writeDue_follows : Follows s (writeDue s) := .of_frame (writeDue_frame s).1 (writeDue_frame s).2.1

theorem clearMarks_follows : Follows s (clearMarks s) := .of_frame rfl rfl

theorem selectBoard_follows (b : Nat) (r : Board) (d : Dest) : Follows s (selectBoard b r d s) := by
  obtain ⟨u, e, ht, hd, -⟩ := selectBoard_eq s b r d
  rw [e]
  exact (Follows.of_frame ht hd).trans ((leavePickQueue_follows u b).trans (modBoard_follows _ b fun _ => nofun))

theorem scanQueue_follows (l : List Nat) : Follows s (scanQueue l s) := by
  induction l generalizing s with
  | nil => exact .refl s
  | cons b l ih =>
    unfold scanQueue
    (repeat' split)
    · exact ih s
    · exact selectBoard_follows ..
    · exact selectBoard_follows ..
    · exact (raise_follows ..).trans (ih _)
    · exact ih s

theorem selectIfAsked_follows : Follows s (selectIfAsked s) := by
  unfold selectIfAsked trySelect
  (repeat' split) <;> first | exact .refl s | exact scanQueue_follows ..

theorem releaseOrdered_follows (t : Tab) : Follows s (releaseOrdered t s) := by
  unfold releaseOrdered
  split
  · exact setBoardState_follows s _ nofun
  · exact .refl s

/-- A CUT of a tab in a head's queue keeps every rule (R89). -/
theorem issueCut_follows {k : Head} {i : Nat} (hi : i ∈ (s.head k).queue) : Follows s (issueCut k i s) := by
  unfold issueCut
  split
  · exact .refl s
  · next t _ =>
    have ordered : Follows s ((leaveLists i s).modTab i fun t =>
        { t with state := .ordered, place := none, cutHead := some k }) := fun P G B hp hb m =>
      (leaveLists_follows s i hp hb m).modTab i fun x hx => hp.order k (m.tabs i x hx) (m.queues k i hi)
    have head (s : State) : Follows s (s.modHead k fun r =>
        { r with state := .cutting, tab := some i, cause := none, timer := none }) := modHead_follows s k fun _ => rfl
    have written (o : Order) (f : Filter) (s : State) : Follows s ((writeOrder k.node o s).setFilter k f) := .of_frame rfl rfl
    exact ordered.trans ((head _).trans ((written ..).trans (releaseOrdered_follows _ t)))

theorem issuePark_follows (k : Head) : Follows s (issuePark k s) := by
  have written : Follows s (writeOrder k.node (.park (parkX k)) s) := .of_frame rfl rfl
  exact written.trans (modHead_follows _ k (f := fun r => { r with state := .parking, timer := none }) fun _ => rfl)

theorem mem_queue_of_firstPassing {k : Head} {i : Nat} (h : s.firstPassing k = some i) : i ∈ (s.head k).queue :=
  List.mem_of_mem_take (List.mem_of_find?_eq_some h)

theorem arbiter_follows (k : Head) : Follows s (arbiter k s) := by
  unfold arbiter
  split
  · split
    · next i hi => exact issueCut_follows s (mem_queue_of_firstPassing s hi)
    · (repeat' split) <;> first | exact .refl s | exact issuePark_follows ..
  · exact .refl s

theorem runArbiter_follows : Follows s (runArbiter s) :=
  (arbiter_follows ..).trans ((arbiter_follows ..).trans ((arbiter_follows ..).trans (arbiter_follows ..)))

theorem settle_follows : Follows s (settle s) :=
  (testDone_follows s).trans <| (testClose_follows _).trans <| (writeDue_follows _).trans <|
    (selectIfAsked_follows _).trans <| (runArbiter_follows _).trans (clearMarks_follows _)

end

end Sys2Proof.Machine
end

section
/-! Cutting entry (R47, R57, R78): when the queues are built no tab is PENDING, and when the boards are tested none is ready and
ATTACHED. -/

namespace Sys2Proof.Machine

/-! ### FRAME tabs join one board -/

/-- FRAME tabs are linked to no board (R6). -/
def FramesAlone (s : State) : Prop := ∀ i x, s.tab i = some x → x.kind = .frame → x.linked = none

section
variable {s t : State}

/-- The rule of FRAME tabs and one more on tab states. -/
def framed (Q : Nat → Tab → Prop) (i : Nat) (x : Tab) : Prop := (x.kind = .frame → x.linked = none) ∧ Q i x

/-- The rule of FRAME tabs alone. -/
theorem framed_tabRule : TabRule (framed fun _ _ => True) fun _ => True :=
  { frame := fun h => h.1, skip := fun _ h => h, stand := fun h => h, order := fun _ h _ => h }

/-- FRAME tabs that join one board, with a rule on boards. -/
theorem FramesAlone.meets {B : Nat → Board → Prop} (hs : FramesAlone s) (hb : ∀ b r, s.board .active b = some r → B b r) :
    Meets (framed fun _ _ => True) (fun _ => True) B s :=
  ⟨fun i x hx => ⟨hs i x hx, trivial⟩, fun _ _ _ => trivial, hb⟩

theorem boardRule_true : BoardRule fun _ _ => True := fun _ _ _ => trivial

theorem Follows.frames (h : Follows s t) (hs : FramesAlone s) : FramesAlone t := by
  have m := h framed_tabRule boardRule_true (hs.meets fun _ _ _ => trivial)
  exact fun i x hx => (m.tabs i x hx).1

/-! ### Boards that left ATTACHED -/

/-- Board b is not ATTACHED. -/
def Left (b : Nat) (s : State) : Prop := ∀ r, s.board .active b = some r → r.state ≠ .attached

theorem Follows.left (h : Follows s t) (hs : FramesAlone s) {b : Nat} (hl : Left b s) : Left b t := by
  have m := h framed_tabRule (boardRule_true.andLeft b) (hs.meets fun j r hr => ⟨trivial, fun hj => hl r (hj ▸ hr)⟩)
  exact fun r hr => (m.boards b r hr).2 rfl

theorem left_modBoard (s : State) {b : Nat} {f : Board → Board} (hf : ∀ r, (f r).state ≠ .attached) :
    Left b (s.modBoard .active b f) := by
  intro y hy
  rw [State.modBoard_board, if_pos rfl] at hy
  obtain ⟨r, -, rfl⟩ := Option.map_eq_some_iff.1 hy
  exact hf r

theorem frames_modBoard {b : Nat} {f : Board → Board} (hs : FramesAlone s) : FramesAlone (s.modBoard .active b f) :=
  fun i x hx => hs i x (by rwa [State.tab, State.modBoard_disp] at hx)

theorem retain_left (hs : FramesAlone s) {b : Nat} (why : RetainReason) (ha : s.boardState .active b = some .attached) :
    Left b (retain b why s) := by
  have m := retainNow_meets s framed_tabRule boardRule_true (hs.meets fun _ _ _ => trivial) b why
  rw [retain, ha]
  exact fun r hr => (m.boards b r hr).2 rfl

/-! ### Readiness -/

/-- Board b is not ready (R57). -/
def Unready (b : Nat) (s : State) : Prop := ∀ r, s.board .active b = some r → s.readyTest r = false

theorem readyTest_iff (s : State) (r : Board) : s.readyTest r = true ↔
    r.state = .attached ∧ r.openTabs = 1 ∧ ∃ x, s.tab r.releaseTab = some x ∧ x.state = .held := by
  unfold State.readyTest
  cases s.tab r.releaseTab <;> simp [and_assoc]

theorem Left.unready {b : Nat} (h : Left b s) : Unready b s := fun r hr =>
  Bool.eq_false_iff.2 fun ht => h r hr ((readyTest_iff s r).1 ht).1

/-- The tabs HELD in s. -/
def HeldIn (s : State) (i : Nat) : Prop := ∃ x, s.tab i = some x ∧ x.state = .held

/-- A board becomes ready only by a tab that becomes HELD or by a count that falls: neither follows (R56, R57). -/
theorem Follows.unready (h : Follows s t) (hs : FramesAlone s) {b : Nat} (hu : Unready b s) : Unready b t := by
  have rule : TabRule (framed fun i x => x.state = .held → HeldIn s i) fun _ => True :=
    { frame := fun h => h.1, skip := fun _ h => ⟨h.1, nofun⟩, stand := fun h => h, order := fun _ h _ => ⟨h.1, nofun⟩ }
  have m := h rule (B := fun j r => j = b → r.state = .attached → r.openTabs = 1 → ¬ HeldIn s r.releaseTab)
    (fun _ _ hr _ ha => absurd ha hr)
    ⟨fun i x hx => ⟨hs i x hx, fun hx' => ⟨x, hx, hx'⟩⟩, fun _ _ _ => trivial, fun j r hr hj ha ho held =>
      Bool.eq_false_iff.1 (hu r (hj ▸ hr)) ((readyTest_iff s r).2 ⟨ha, ho, held⟩)⟩
  refine fun r hr => Bool.eq_false_iff.2 fun ht => ?_
  obtain ⟨ha, ho, x, hx, held⟩ := (readyTest_iff t r).1 ht
  exact m.boards b r hr rfl ha ho ((m.tabs _ x hx).2 held)

/-- A tested board is not ready any more: it joined the pick queue, was retained, or failed the test (R57, R58). -/
theorem testReady_unready (hs : FramesAlone s) (b : Nat) : Unready b (testReady b s) := by
  unfold testReady
  split
  · next absent => exact fun r hr => by simp [absent] at hr
  next r hr =>
  split
  · next ready =>
    have attached : s.boardState .active b = some .attached := by
      simp [State.boardState, hr, ((readyTest_iff s r).1 ready).1]
    have retained (why : RetainReason) : Left b (retain b why s) := retain_left hs why attached
    (repeat' split)
    · exact (retained _).unready
    · exact (((reserveBin_follows _).trans (joinPickBack_follows ..)).left (frames_modBoard hs)
        (left_modBoard s fun _ => by simp)).unready
    · exact ((raise_follows ..).left ((retain_follows ..).frames hs) (retained _)).unready
    · exact ((joinPickBack_follows ..).left (frames_modBoard hs) (left_modBoard s fun _ => by simp)).unready
  · next no => exact fun r' hr' => Option.some.inj (hr.symm.trans hr') ▸ Bool.eq_false_iff.2 no

theorem testReady_foldl_unready (hs : FramesAlone s) (l : List Nat) :
    ∀ b ∈ l, Unready b (l.foldl (fun s b => testReady b s) s) := by
  induction l generalizing s with
  | nil => nofun
  | cons a l ih =>
    have next := (testReady_follows s a).frames hs
    intro b hb
    rcases List.mem_cons.1 hb with rfl | hb
    · exact (Follows.foldl (fun s b => testReady_follows s b) _ l).unready next (testReady_unready hs b)
    · exact ih next b hb

/-- No board of the active panel is ready once all are tested (R47, step 3). -/
theorem testAllReady_unready (hs : FramesAlone s) {b : Nat} (hb : b < (s.boards .active).length) :
    Unready b (testAllReady s) := testReady_foldl_unready hs _ b (List.mem_range.2 hb)

/-! ### Queue building -/

/-- A rule on tab entries that the building pass keeps as well (R78). -/
structure BuildRule (P : Nat → Tab → Prop) (G : Nat → Prop) : Prop extends TabRule P G where
  hold : ∀ {i x}, P i x → x.state = .pending → x.release = true → P i { x with state := .held, place := none }
  queue : ∀ {i x} p, P i x → x.state = .pending → x.release = false →
    P i { x with state := .queued, place := some p, cutHead := none, standing := false, settlement := none }
  goes : ∀ {i x}, P i x → x.state = .pending → x.release = false → G i

/-- Tabs and queues meet their rules. -/
abbrev MeetsTabs (P : Nat → Tab → Prop) (G : Nat → Prop) (s : State) : Prop := Meets P G (fun _ _ => True) s

/-- State t comes from state s by operations that keep every rule the building pass keeps. -/
def Builds (s t : State) : Prop := ∀ ⦃P G⦄, BuildRule P G → MeetsTabs P G s → MeetsTabs P G t

theorem Follows.builds (h : Follows s t) : Builds s t := fun _ _ hp m => h hp.toTabRule boardRule_true m

theorem Builds.refl (s : State) : Builds s s := fun _ _ _ m => m

theorem Builds.trans {u : State} (h : Builds s t) (k : Builds t u) : Builds s u := fun _ _ hp m => k hp (h hp m)

theorem Builds.foldl {α : Type} {f : State → α → State} (hf : ∀ s a, Builds s (f s a)) (s : State) (l : List α) :
    Builds s (l.foldl f s) := by
  induction l generalizing s with
  | nil => exact .refl s
  | cons a l ih => exact (hf s a).trans (ih _)

theorem markSkipped_builds (s : State) (i : Nat) (why : SkipReason) : Builds s (markSkipped i why s) := fun _ _ hp m =>
  m.markSkipped hp.toTabRule boardRule_true why fun _ _ => ⟨fun _ _ _ => trivial, fun _ _ _ _ _ => trivial⟩

theorem reachTab_builds (s : State) (i : Nat) : Builds s (reachTab s i) := by
  unfold reachTab
  split
  · split
    · exact (markSkipped_builds ..).trans (retainJoined_follows ..).builds
    · exact .refl s
  · exact .refl s

theorem buildRelease_builds (s : State) (i : Nat) : Builds s (buildRelease s i) := by
  unfold buildRelease
  split
  · next t ht =>
    split
    · next due =>
      split
      · exact markSkipped_builds ..
      · exact fun P G hp m => m.modTab i fun x hx => by
          cases ht.symm.trans hx
          exact hp.hold (m.tabs i t ht) due.1 due.2
    · exact .refl s
  · exact .refl s

theorem mem_placeIn {front : Bool} {i j : Nat} {l : List Nat} : j ∈ placeIn front i l ↔ j = i ∨ j ∈ l := by
  cases front <;> simp [placeIn, or_comm]

/-- A PENDING tab without the release flag that is queued keeps the rules. -/
theorem putTab_meets {P : Nat → Tab → Prop} {G : Nat → Prop} (hp : BuildRule P G) (m : MeetsTabs P G s) {i : Nat} {x : Tab}
    (hx : s.tab i = some x) (hs : x.state = .pending) (hr : x.release = false) (p : Place) (front : Bool) :
    MeetsTabs P G (putTab i p front s) := by
  have goes : G i := hp.goes (m.tabs i x hx) hs hr
  have queued : MeetsTabs P G (s.modTab i fun t =>
      { t with state := .queued, place := some p, cutHead := none, standing := false, settlement := none }) :=
    m.modTab i fun y hy => by
      cases hx.symm.trans hy
      exact hp.queue p (m.tabs i x hx) hs hr
  have joined {q : List Nat} (hq : ∀ j ∈ q, G j) : ∀ j ∈ placeIn front i q, G j := fun j hj =>
    (mem_placeIn.1 hj).elim (fun h => h ▸ goes) (hq j)
  cases p with
  | queueA =>
    refine ⟨queued.tabs, fun k => ?_, queued.boards⟩
    cases k with
    | a => exact joined (queued.queues .a)
    | b => exact queued.queues .b
  | queueB =>
    refine ⟨queued.tabs, fun k => ?_, queued.boards⟩
    cases k with
    | a => exact queued.queues .a
    | b => exact joined (queued.queues .b)
  | unassigned => exact ⟨queued.tabs, queued.queues, queued.boards⟩

theorem buildTab_builds (k : TabKind) (s : State) (i : Nat) : Builds s (buildTab k s i) := by
  unfold buildTab
  split
  · next t ht =>
    split
    · next due =>
      split
      · exact markSkipped_builds ..
      · exact fun P G hp m => putTab_meets hp m ht due.1 due.2.1 _ _
    · exact .refl s
  · exact .refl s

theorem evalPairing_follows (s : State) : Follows s (evalPairing s) := by
  obtain ⟨ht, -, hd, hh⟩ := evalPairing_frame s
  refine .of_same hd hh ?_
  have half (h : Half) : (evalPairing s).half h = s.half h := by rw [State.half_eq, s.half_eq, ht]
  simp only [State.boards, State.panel, ht, half]

theorem buildQueues_builds (s : State) : Builds s (buildQueues s) :=
  (Builds.foldl reachTab_builds s _).trans <| (Builds.foldl buildRelease_builds _ _).trans <|
    (Builds.foldl (buildTab_builds _) _ _).trans (Builds.foldl (buildTab_builds _) _ _)

theorem Builds.frames (h : Builds s t) (hs : FramesAlone s) : FramesAlone t := by
  have rule : BuildRule (framed fun _ _ => True) fun _ => True :=
    { framed_tabRule with hold := fun h _ _ => h, queue := fun _ h _ _ => h, goes := fun _ _ _ => trivial }
  have m := h rule (hs.meets fun _ _ _ => trivial)
  exact fun i x hx => (m.tabs i x hx).1

/-! ### No tab stays PENDING -/

/-- Tab i, where its kind and release flag are as asked, is not PENDING. -/
def Built (C : TabKind → Bool → Prop) (i : Nat) (s : State) : Prop :=
  ∀ x, s.tab i = some x → C x.kind x.release → x.state ≠ .pending

theorem Builds.built (h : Builds s t) (hs : FramesAlone s) {C : TabKind → Bool → Prop} {i : Nat} (hb : Built C i s) :
    Built C i t := by
  have rule : BuildRule (framed fun j x => j = i → C x.kind x.release → x.state ≠ .pending) fun _ => True :=
    { frame := fun h => h.1, skip := fun _ h => ⟨h.1, fun _ _ => nofun⟩, stand := fun h => h
      order := fun _ h _ => ⟨h.1, fun _ _ => nofun⟩, hold := fun h _ _ => ⟨h.1, fun _ _ => nofun⟩
      queue := fun _ h _ _ => ⟨h.1, fun _ _ => nofun⟩, goes := fun _ _ _ => trivial }
  have m := h rule ⟨fun j x hx => ⟨hs j x hx, fun hj => hb x (hj ▸ hx)⟩, fun _ _ _ => trivial, fun _ _ _ => trivial⟩
  exact fun x hx => (m.tabs i x hx).2 rfl

/-- A pass that builds each tab it comes to leaves all of them built. -/
theorem built_foldl {C : TabKind → Bool → Prop} {f : State → Nat → State} (hf : ∀ s i, Builds s (f s i))
    (hb : ∀ s i, Built C i (f s i)) (hs : FramesAlone s) (l : List Nat) : ∀ i ∈ l, Built C i (l.foldl f s) := by
  induction l generalizing s with
  | nil => nofun
  | cons a l ih =>
    have next := (hf s a).frames hs
    intro i hi
    rcases List.mem_cons.1 hi with rfl | hi
    · exact (Builds.foldl hf _ l).built next (hb s i)
    · exact ih next i hi

theorem lowerCounts_disp (t : Tab) (s : State) : (lowerCounts t s).disp = s.disp := by
  unfold lowerCounts lowerBoard
  split <;> simp only [State.modBoard_disp]

theorem markSkipped_tab {i : Nat} {t : Tab} (why : SkipReason) (ht : s.tab i = some t) :
    (markSkipped i why s).tab i = some (t.skipped why) := by
  have left : (leaveLists i s).tab i = some t := ht
  unfold markSkipped
  simp only [ht]
  rw [State.tab, lowerCounts_disp, ← State.tab, State.modTab_tab, if_pos rfl, left]
  rfl

theorem putTab_tab {i : Nat} {t : Tab} (p : Place) (front : Bool) (ht : s.tab i = some t) :
    ∃ y, (putTab i p front s).tab i = some y ∧ y.state = .queued := by
  have put := State.modTab_tab s i i fun t =>
    { t with state := .queued, place := some p, cutHead := none, standing := false, settlement := none }
  rw [if_pos rfl, ht] at put
  cases p <;> exact ⟨_, put, rfl⟩

theorem buildRelease_built (s : State) (i : Nat) : Built (fun _ release => release = true) i (buildRelease s i) := by
  intro y hy release pending
  unfold buildRelease at hy
  split at hy
  · next t ht =>
    split at hy
    · split at hy
      · rw [markSkipped_tab _ ht] at hy; cases hy; cases pending
      · rw [State.modTab_tab, if_pos rfl, ht] at hy; cases hy; cases pending
    · next no => cases ht.symm.trans hy; exact no ⟨pending, release⟩
  · next absent => cases absent.symm.trans hy

theorem buildTab_built (k : TabKind) (s : State) (i : Nat) :
    Built (fun kind release => release = false ∧ kind = k) i (buildTab k s i) := by
  intro y hy due pending
  unfold buildTab at hy
  split at hy
  · next t ht =>
    split at hy
    · split at hy
      · rw [markSkipped_tab _ ht] at hy; cases hy; cases pending
      · obtain ⟨z, hz, queued⟩ := putTab_tab (s.assign t) false ht
        cases hz.symm.trans hy
        cases queued.symm.trans pending
    · next no => cases ht.symm.trans hy; exact no ⟨pending, due⟩
  · next absent => cases absent.symm.trans hy

/-- The three building passes leave no tab PENDING: release tabs, then SHARED and FRAME tabs (R78). -/
theorem passes_built (hs : FramesAlone s) (l : List Nat) : ∀ i ∈ l, Built (fun _ _ => True) i
    (l.foldl (buildTab .frame) (l.foldl (buildTab .shared) (l.foldl buildRelease s))) := by
  intro i hi y hy _
  have released := (Builds.foldl buildRelease_builds s l).frames hs
  have onShared := Builds.foldl (buildTab_builds .shared) (l.foldl buildRelease s) l
  have onFrame := Builds.foldl (buildTab_builds .frame) (l.foldl (buildTab .shared) (l.foldl buildRelease s)) l
  cases hr : y.release with
  | true =>
    have release := built_foldl buildRelease_builds buildRelease_built hs l i hi
    exact (onShared.trans onFrame).built released release y hy hr
  | false =>
    cases hk : y.kind with
    | shared =>
      have shared := built_foldl (buildTab_builds .shared) (buildTab_built .shared) released l i hi
      exact onFrame.built (onShared.frames released) shared y hy ⟨hr, hk⟩
    | frame =>
      exact built_foldl (buildTab_builds .frame) (buildTab_built .frame) (onShared.frames released) l i hi y hy ⟨hr, hk⟩

/-- Once the queues are built no tab is PENDING (R78). -/
theorem buildQueues_built (hs : FramesAlone s) (i : Nat) : Built (fun _ _ => True) i (buildQueues s) := by
  intro y hy
  have length : (buildQueues s).disp.tabs.length = s.disp.tabs.length := by
    simpa [State.outline] using congrArg (fun o => o.tabs.length) (buildQueues_outline s .h0)
  have hi : i ∈ List.range s.disp.tabs.length := by
    rw [List.mem_range, ← length]
    exact (List.getElem?_eq_some_iff.1 hy).1
  exact passes_built ((Builds.foldl reachTab_builds s _).frames hs) _ i hi y hy

end

end Sys2Proof.Machine
end

section
/-! The end of an expansion (R21): the tables as the walk gives them (R19, R20), and what follows in the same event (R22, R38, R45,
R47, R52). -/

namespace Sys2Proof.Machine

/-! ### The tables written -/

/-- The board table of a walk (R19). -/
def Walk.boardTable (bad : List Nat) (w : Walk) : List Board := w.boards.zipIdx.map fun x => expandBoard bad x.1 x.2

/-- The tab table of a walk (R20). -/
def Walk.tabTable (w : Walk) : List Tab := w.tabs.zipIdx.map fun x => expandTab w.boards x.1 x.2

/-- The state with the active panel's tables written from a walk and its expansion ended (R21). -/
def State.written (s : State) (p : Panel) (w : Walk) : State :=
  { s with
    tracker := { s.tracker with
      active := some { p with expanding := false }
      half0 := if p.half = .h0 then w.boardTable p.bad else s.tracker.half0
      half1 := if p.half = .h1 then w.boardTable p.bad else s.tracker.half1 }
    disp := { s.disp with tabs := w.tabTable } }

/-- What follows the end of an expansion in the same event (R22, R38, R45, R52). -/
def State.expanded (s : State) (p : Panel) : State :=
  if p.abort.isSome then applyAbort s
  else match p.pendingLoc with
    | some o => enterRefused o s
    | none => if s.locator.active.state = .passed then locationPassed (retainMarked (mapTables s)) else s

section
variable {s : State} {p : Panel} {w : Walk}

theorem State.written_half : (s.written p w).tracker.half p.half = w.boardTable p.bad := by
  cases h : p.half <;> simp [State.written, Tracker.half, h]

theorem State.written_active : (s.written p w).tracker.active = some { p with expanding := false } := rfl

theorem State.written_setup : (s.written p w).setup = s.setup := rfl

theorem writeTables_eq {r : RecipeSlot} (hp : s.tracker.active = some p) (hr : s.recipes.slots[p.slot]? = some r)
    (hw : r.walk = .whole w) :
    (writeTables p s).modPanel .active (fun p => { p with expanding := false }) = s.written p w := by
  have slot : s.slotRec p.slot = some r := hr
  have produced : r.produced = (w.boards, w.tabs) := by simp [RecipeSlot.produced, hw]
  simp only [writeTables, slot, produced]
  cases h : p.half <;> simp [State.setHalf, State.modPanel, State.written, h, hp, Walk.boardTable, Walk.tabTable]

/-- The end of an expansion in flight (R21). -/
theorem expansionDone_eq {r : RecipeSlot} (hp : s.tracker.active = some p) (he : p.expanding = true)
    (hr : s.recipes.slots[p.slot]? = some r) (hw : r.walk = .whole w) : expansionDone s = (s.written p w).expanded p := by
  have mapping : tryMapping (s.written p w) = if (s.written p w).locator.active.state = .passed then
      locationPassed (retainMarked (mapTables (s.written p w))) else s.written p w := by
    simp [tryMapping, State.written_active, State.loc]
  simp only [expansionDone, hp, he, if_true, writeTables_eq hp hr hw, State.expanded]
  cases p.pendingLoc <;> simp only [mapping]

theorem expanded_setup : (settle ((s.written p w).expanded p)).setup = s.setup := by
  unfold State.expanded
  (repeat' split) <;> simp [State.written_setup]

/-! ### The entries of the tables -/

theorem tabTable_getElem? {i : Nat} {x : Tab} (h : w.tabTable[i]? = some x) :
    ∃ y, w.tabs[i]? = some y ∧ x = expandTab w.boards y i := by
  simp only [Walk.tabTable, List.getElem?_map, List.getElem?_zipIdx, Option.map_map, Nat.zero_add] at h
  obtain ⟨y, hy, rfl⟩ := Option.map_eq_some_iff.1 h
  exact ⟨y, hy, rfl⟩

/-- The FRAME tabs of a whole walk are linked to no board (R6). -/
theorem walk_frames {items : List (Option Item)} {fuel : Nat} (h : walk items fuel Walk.begin = .whole w) :
    ∀ t ∈ w.tabs, t.kind = .frame → t.linked = none := by
  refine (walk_whole_induction (P := fun w => ∀ t ∈ w.tabs, t.kind = .frame → t.linked = none) (fun w w' _ hw hv => ?_)
    (fun _ ht => absurd ht List.not_mem_nil) h).1
  rcases visit_tables hv with ⟨-, ht⟩ | ⟨v, d, g, hv⟩ | ⟨k, o, dx, dy, len, feed, link, -, hv⟩
  · rwa [ht]
  · obtain ⟨-, -, rfl⟩ := visitBoard_go hv
    exact hw
  · obtain ⟨-, -, -, -, -, -, -, rfl⟩ := visitTab_go hv
    intro t ht kind
    rcases List.mem_append.1 ht with ht | ht
    · exact hw t ht kind
    · cases List.mem_singleton.1 ht
      cases kind
      rfl

theorem written_frames {r : RecipeSlot} (hw : r.walk = .whole w) : FramesAlone (s.written p w) := by
  intro i x hx kind
  obtain ⟨y, hy, rfl⟩ := tabTable_getElem? hx
  exact walk_frames hw y (List.mem_of_getElem? hy) kind

/-! ### The mapping pass -/

theorem mapTables_disp (s : State) :
    (mapTables s).disp = { s.disp with tabs := s.disp.tabs.map (Tab.mapped s.loc.map) } := by
  unfold mapTables State.modLoc
  dsimp only
  cases s.tracker.active with
  | none => rfl
  | some p => exact State.setHalf_disp ..

theorem mapTables_tab {i : Nat} {x : Tab} (h : (mapTables s).tab i = some x) :
    ∃ y, s.tab i = some y ∧ x = y.mapped s.loc.map := by
  rw [State.tab, mapTables_disp, List.getElem?_map] at h
  obtain ⟨y, hy, rfl⟩ := Option.map_eq_some_iff.1 h
  exact ⟨y, hy, rfl⟩

theorem mapTables_frames (hs : FramesAlone s) : FramesAlone (mapTables s) := by
  intro i x hx
  obtain ⟨y, hy, rfl⟩ := mapTables_tab hx
  exact hs i y hy

/-- The mapping pass maps every tab and every board of the active panel (R38). -/
theorem mapTables_outline (hp : s.tracker.active = some p) : (mapTables s).outline p.half =
    { s.outline p.half with
      loc := { s.locator.active with state := .mapped }
      tabs := s.disp.tabs.map fun t => (t.mapped s.loc.map).fixed
      boards := (s.tracker.half p.half).map fun b => (b.mapped s.loc.map).fixed } := by
  have tracker : (mapTables s).tracker.active = s.tracker.active ∧ (mapTables s).tracker.closing = s.tracker.closing ∧
      (mapTables s).locator.active = { s.locator.active with state := .mapped } ∧
      (mapTables s).tracker.half p.half = (s.tracker.half p.half).map (Board.mapped s.loc.map) := by
    unfold mapTables
    simp only [hp]
    cases h : p.half <;> exact ⟨hp, rfl, rfl, rfl⟩
  obtain ⟨active, closing, loc, half⟩ := tracker
  simp [State.outline, active, closing, loc, half, mapTables_disp, Function.comp_def]

end

end Sys2Proof.Machine
end

section
/-! EXPANSION_COMPLETE (R21): what the event leaves of the panel and of its tables in each of the four ways it may go. -/

namespace Sys2Proof.Machine

/-! ### What the walk gave -/

/-- What of a tab entry the walk gives it (R20). -/
def Tab.given (x : Tab) : Nat × TabKind × Nat × Option Nat × Bool × Pt × Pt × Nat × Nat :=
  (x.index, x.kind, x.owner, x.linked, x.release, x.nomStart, x.nomEnd, x.len, x.feed)

/-- What of a board entry the walk gives it (R19). -/
def Board.given (b : Board) : Nat × Nat × Bool × Nat × Pt := (b.index, b.variant, b.bad, b.releaseTab, b.nominal)

/-- Every entry keeps what the walk gave it. -/
def Outline.kept (o : Outline) (p : Panel) (w : Walk) : Prop :=
  o.tabs.map Tab.given = w.tabTable.map Tab.given ∧ o.boards.map Board.given = (w.boardTable p.bad).map Board.given

section
variable {s : State} {p : Panel} {w : Walk}

theorem outline_loc (s : State) (h : Half) : (s.outline h).loc = s.locator.active := rfl

theorem written_outline (s : State) (p : Panel) (w : Walk) : (s.written p w).outline p.half =
    { panel := some { p with expanding := false }.fixed, closing := s.tracker.closing.map Panel.half
      loc := s.locator.active, tabs := w.tabTable.map Tab.fixed, boards := (w.boardTable p.bad).map Board.fixed } := by
  rw [State.outline, State.written_half]
  rfl

theorem modPanel_outline (s : State) (h : Half) {f g : Panel → Panel} (hf : ∀ p, (f p).fixed = g p.fixed) :
    (s.modPanel .active f).outline h = { s.outline h with panel := (s.outline h).panel.map g } := by
  have panel : (s.tracker.active.map f).map Panel.fixed = (s.tracker.active.map Panel.fixed).map g := by
    cases s.tracker.active with
    | none => rfl
    | some p => exact congrArg some (hf p)
  have same : (s.modPanel .active f).tracker.half h = s.tracker.half h := by cases h <;> rfl
  simp only [State.outline, same]
  exact congrArg (fun x => Outline.mk x _ _ _ _) panel

/-- An abort applied: the panel is DONE (R52). -/
theorem applyAbort_outline (s : State) (h : Half) : (applyAbort s).outline h =
    { s.outline h with panel := (s.outline h).panel.map fun p => { p with state := .done } } := by
  rw [applyAbort, panelDone_outline, retainAll_outline]

/-- A refusal applied: the panel is REFUSED with its stop reason (R45, R46). -/
theorem enterRefused_outline (o : LocOutcome) (s : State) (h : Half) : (enterRefused o s).outline h =
    { s.outline h with panel := (s.outline h).panel.map fun p =>
        { p with state := .refused, stop := some o.stopReason, pendingLoc := none } } := by
  rw [enterRefused, raise_outline, retainAll_outline]
  exact modPanel_outline s h fun _ => rfl

/-- Cutting entry: the panel is CUTTING (R45, R47). -/
theorem locationPassed_outline (s : State) (h : Half) : (locationPassed s).outline h =
    { s.outline h with panel := (s.outline h).panel.map fun p => { p with state := .cutting } } := by
  rw [locationPassed, testAllReady_outline, buildQueues_outline, evalPairing_outline]
  exact modPanel_outline s h fun _ => rfl

/-- Cutting entry from the tables as the walk gave them: each is mapped (R38, R47). -/
theorem entered_outline (s : State) (p : Panel) (w : Walk) :
    (locationPassed (retainMarked (mapTables (s.written p w)))).outline p.half =
      { panel := some { p with expanding := false, state := .cutting }.fixed
        closing := s.tracker.closing.map Panel.half, loc := { s.locator.active with state := .mapped }
        tabs := w.tabTable.map fun t => (t.mapped s.locator.active.map).fixed
        boards := (w.boardTable p.bad).map fun b => (b.mapped s.locator.active.map).fixed } := by
  rw [locationPassed_outline, retainMarked_outline, mapTables_outline (p := { p with expanding := false }) rfl,
    written_outline]
  simp only [State.written_half]
  rfl

/-- What the four ways to go on keep of the panel and of the tables (R21). -/
theorem expanded_outline (s : State) (p : Panel) (w : Walk) : ∃ x : Panel,
    (((s.written p w).expanded p).outline p.half).panel = some x.fixed ∧ x.id = p.id ∧ x.expanding = false ∧ x.half = p.half ∧
      (((s.written p w).expanded p).outline p.half).closing = s.tracker.closing.map Panel.half ∧
      (((s.written p w).expanded p).outline p.half).kept p w := by
  unfold State.expanded
  (repeat' split)
  · refine ⟨{ p with expanding := false, state := .done }, ?_⟩
    rw [applyAbort_outline, written_outline]
    simp [Outline.kept, Panel.fixed, Function.comp_def, Tab.given, Board.given, Tab.fixed, Board.fixed]
  · next o _ =>
    refine ⟨{ p with expanding := false, state := .refused, stop := some o.stopReason, pendingLoc := none }, ?_⟩
    rw [enterRefused_outline, written_outline]
    simp [Outline.kept, Panel.fixed, Function.comp_def, Tab.given, Board.given, Tab.fixed, Board.fixed]
  · refine ⟨{ p with expanding := false, state := .cutting }, ?_⟩
    rw [entered_outline]
    simp [Outline.kept, Panel.fixed, Function.comp_def, Tab.given, Board.given, Tab.fixed, Board.fixed, Tab.mapped,
      Board.mapped]
  · refine ⟨{ p with expanding := false }, ?_⟩
    rw [written_outline]
    simp [Outline.kept, Panel.fixed, Function.comp_def, Tab.given, Board.given, Tab.fixed, Board.fixed]

/-! ### The close of the event -/

/-- The active panel once the event has closed: as before it but for its tally, or DONE from CUTTING (R48). -/
theorem settle_active {h : Half} {x : Panel} (hx : (s.outline h).panel = some x.fixed) :
    ∃ q, (settle s).tracker.active = some q ∧ q.id = x.id ∧ q.expanding = x.expanding ∧ q.half = x.half ∧ q.stop = x.stop ∧
      (q.state = x.state ∨ (x.state = .cutting ∧ q.state = .done)) := by
  obtain ⟨y, hy, same⟩ := active_of_outline h hx
  obtain ⟨-, -, -, e | ⟨cutting, e⟩⟩ := settle_outline s h
  · obtain ⟨q, hq, fixed⟩ := active_of_outline (t := settle s) h (e.trans hx)
    obtain ⟨id, expanding, state, stop, half⟩ := Panel.fixed_fields fixed
    exact ⟨q, hq, id, expanding, half, stop, .inl state⟩
  · have cut : y.state = .cutting := by simpa [State.cutting, hy] using cutting
    obtain ⟨q, hq, fixed⟩ := active_of_outline (t := settle s) (p := { x with state := .done }) h (by rw [e, hx]; rfl)
    obtain ⟨id, expanding, state, stop, half⟩ := Panel.fixed_fields fixed
    exact ⟨q, hq, id, expanding, half, stop, .inr ⟨(Panel.fixed_fields same).2.2.1 ▸ cut, state⟩⟩

/-- A closing panel on the other half, read from the outline. -/
theorem apart_of_outline {t : State} {h : Half} (closing : (t.outline h).closing = s.tracker.closing.map Panel.half)
    (apart : ∀ c, s.tracker.closing = some c → c.half ≠ h) : ∀ c, t.tracker.closing = some c → c.half ≠ h := by
  intro c hc
  have e : some c.half = s.tracker.closing.map Panel.half := by
    rw [← closing, State.outline, hc]
    rfl
  obtain ⟨d, hd, half⟩ := Option.map_eq_some_iff.1 e.symm
  exact half ▸ apart d hd

/-- A view of the entries of one half that the outline keeps. -/
theorem half_view {β : Type} {t : State} {h : Half} (g : Board → β) (hg : ∀ b, g b.fixed = g b) :
    (t.half h).map g = (t.outline h).boards.map g := by
  simp [State.outline, State.half_eq, Function.comp_def, hg]

/-- A view of the tab entries that the outline keeps. -/
theorem tabs_view {β : Type} {t : State} (h : Half) (g : Tab → β) (hg : ∀ x, g x.fixed = g x) :
    t.disp.tabs.map g = (t.outline h).tabs.map g := by
  simp [State.outline, Function.comp_def, hg]

/-- The active panel's boards are the half its record names. -/
theorem boards_of_outline {t : State} {h : Half} {x : Panel} (hx : (t.outline h).panel = some x.fixed) (hh : x.half = h) :
    t.boards .active = t.half h := by
  obtain ⟨q, hq, same⟩ := active_of_outline h hx
  obtain ⟨-, -, -, -, half⟩ := Panel.fixed_fields same
  simp [State.boards, State.panel, hq, half, hh]

theorem boards_length_of_outline {t : State} (e : ∀ h, t.outline h = s.outline h) :
    (t.boards .active).length = (s.boards .active).length := by
  cases ha : s.tracker.active with
  | none =>
    have none_active : t.tracker.active = none := by
      simpa [State.outline, ha] using congrArg Outline.panel (e .h0)
    simp [State.boards, State.panel, ha, none_active]
  | some p =>
    have panel : (s.outline p.half).panel = some p.fixed := by simp [State.outline, ha]
    rw [boards_of_outline panel rfl, boards_of_outline ((congrArg Outline.panel (e p.half)).trans panel) rfl,
      State.half_eq, State.half_eq]
    simpa [State.outline] using congrArg (fun o => o.boards.length) (e p.half)

/-! ### Cutting entry -/

/-- What holds of the tab at index i from cutting entry on, when its queues held the indices in Q before (R78). -/
def entryRule (v : State) (Q : Nat → Prop) (i : Nat) (x : Tab) : Prop :=
  x.index = i ∧ (x.kind = .frame → x.linked = none) ∧ (∃ y, v.tab i = some y ∧ y.release = x.release) ∧
    (x.release = true → ¬ Q i → x.state = .pending ∨ x.state = .held ∨ x.state = .skipped) ∧
    (x.release = false → x.state = .pending ∨ x.state = .queued ∨ x.state = .ordered ∨ x.state = .skipped)

/-- What joins the queues from cutting entry on: tabs without the release flag (R78). -/
def entryQueue (v : State) (Q : Nat → Prop) (i : Nat) : Prop := Q i ∨ ∀ y, v.tab i = some y → y.release = false

theorem entryRule_build (v : State) (Q : Nat → Prop) : BuildRule (entryRule v Q) (entryQueue v Q) where
  frame := fun ⟨_, frame, _⟩ => frame
  skip := fun _ ⟨index, frame, walk, _, _⟩ => ⟨index, frame, walk, fun _ _ => by simp [Tab.skipped],
    fun _ => by simp [Tab.skipped]⟩
  stand := fun h => h
  order := by
    rintro i x k ⟨index, frame, ⟨y, hy, hr⟩, -, -⟩ queued
    refine ⟨index, frame, ⟨y, hy, hr⟩, fun release hq => ?_, fun _ => by simp⟩
    rcases queued with hq' | plain
    · exact absurd hq' hq
    · simp [← hr, plain y hy] at release
  hold := fun ⟨index, frame, walk, _, _⟩ _ release => ⟨index, frame, walk, fun _ _ => by simp, fun plain => by
    simp [release] at plain⟩
  queue := fun _ ⟨index, frame, walk, _, _⟩ _ plain => ⟨index, frame, walk, fun release => by
    simp [plain] at release, fun _ => by simp⟩
  goes := fun ⟨_, _, ⟨y, hy, hr⟩, _, _⟩ _ plain => .inr fun z hz => by
    cases hy.symm.trans hz
    exact hr.trans plain

/-- The state in which the queues are built: marked boards retained, the panel CUTTING, pairing evaluated (R47). -/
def State.beforeQueues (v : State) : State :=
  evalPairing ((retainMarked v).modPanel .active fun p => { p with state := .cutting })

theorem locationPassed_eq (v : State) : locationPassed (retainMarked v) = testAllReady (buildQueues v.beforeQueues) := rfl

theorem beforeQueues_follows (v : State) : Follows v v.beforeQueues := by
  have cutting (v : State) : Follows v (v.modPanel .active fun p => { p with state := .cutting }) :=
    modPanel_follows v fun _ => rfl
  exact (retainMarked_follows v).trans ((cutting _).trans (evalPairing_follows _))

/-- From the tables as they are mapped, cutting entry and the close of the event keep every rule of the building pass. -/
theorem entry_builds (v : State) : Builds v (settle (locationPassed (retainMarked v))) := by
  rw [locationPassed_eq]
  exact (beforeQueues_follows v).builds.trans <| (buildQueues_builds _).trans <|
    (testAllReady_follows _).builds.trans (settle_follows _).builds

/-- Once a panel has entered CUTTING no tab is PENDING, and no board is ready and ATTACHED (R47, R57, R78). -/
theorem entry_built {v : State} (hs : FramesAlone v) :
    (∀ i x, (settle (locationPassed (retainMarked v))).tab i = some x → x.state ≠ .pending) ∧
    ∀ b, b < ((locationPassed (retainMarked v)).boards .active).length →
      Unready b (settle (locationPassed (retainMarked v))) := by
  rw [locationPassed_eq]
  have frames := (beforeQueues_follows v).frames hs
  have built := (buildQueues_builds v.beforeQueues).frames frames
  have later := (testAllReady_follows (buildQueues v.beforeQueues)).trans (settle_follows _)
  refine ⟨fun i x hx => later.builds.built built (buildQueues_built frames i) x hx trivial, fun b hb => ?_⟩
  refine (settle_follows _).unready ((testAllReady_follows _).frames built) (testAllReady_unready built ?_)
  rwa [← boards_length_of_outline (testAllReady_outline _)]

/-- A tab entry mapped and tested against the envelope (R38, R39). -/
def Tab.placed (map : Pt → Pt) (x : Tab) : Prop :=
  x.corStart = some (map x.nomStart) ∧ x.corEnd = some (map x.nomEnd) ∧
    x.unreachable = !((map x.nomStart).inEnvelope && (map x.nomEnd).inEnvelope)

/-- A board entry mapped and tested against the envelope (R38, R39). -/
def Board.placed (map : Pt → Pt) (b : Board) : Prop :=
  b.corrected = some (map b.nominal) ∧ b.unreachable = !(map b.nominal).inEnvelope

theorem Tab.placed_of_fixed {map : Pt → Pt} {x y : Tab} (h : (y.mapped map).fixed = x.fixed) : x.placed map := by
  have placed : (y.mapped map).fixed.placed map := ⟨rfl, rfl, rfl⟩
  rw [h] at placed
  exact placed

theorem Board.placed_of_fixed {map : Pt → Pt} {b c : Board} (h : (c.mapped map).fixed = b.fixed) : b.placed map := by
  have placed : (c.mapped map).fixed.placed map := ⟨rfl, rfl⟩
  rw [h] at placed
  exact placed

theorem fixed_mem_outline {t : State} (h : Half) {x : Tab} (hx : x ∈ t.disp.tabs) : x.fixed ∈ (t.outline h).tabs :=
  List.mem_map_of_mem hx

theorem board_fixed_mem_outline {t : State} {h : Half} {b : Board} (hb : b ∈ t.half h) :
    b.fixed ∈ (t.outline h).boards := by
  rw [State.half_eq] at hb
  exact List.mem_map_of_mem hb

/-- The state after cutting entry from the tables as the walk gave them, when the event has closed (R38, R47). -/
def State.entered (s : State) (p : Panel) (w : Walk) : State :=
  settle (locationPassed (retainMarked (mapTables (s.written p w))))

/-- Every tab is mapped and tested against the envelope (R38, R39). -/
theorem entered_tabs_placed (s : State) (p : Panel) (w : Walk) :
    ∀ x ∈ (s.entered p w).disp.tabs, x.placed s.locator.active.map := by
  intro x hx
  have mapped := fixed_mem_outline p.half hx
  obtain ⟨-, tabs, -⟩ := settle_outline (locationPassed (retainMarked (mapTables (s.written p w)))) p.half
  rw [State.entered, tabs, entered_outline] at mapped
  obtain ⟨y, -, fixed⟩ := List.mem_map.1 mapped
  exact Tab.placed_of_fixed fixed

/-- Tab i stands in the queue of a head. -/
def State.inQueue (s : State) (i : Nat) : Prop := i ∈ (s.head .a).queue ∨ i ∈ (s.head .b).queue

theorem State.written_queue (s : State) (p : Panel) (w : Walk) {k : Head} {i : Nat}
    (h : i ∈ ((mapTables (s.written p w)).head k).queue) : s.inQueue i := by
  rw [State.head, mapTables_disp] at h
  cases k with
  | a => exact .inl h
  | b => exact .inr h

/-- Every tab is HELD, QUEUED, ORDERED or SKIPPED as its release flag and the queues have it (R78). -/
theorem entered_tabs_state {r : RecipeSlot} (hw : r.walk = .whole w) : ∀ x ∈ (s.entered p w).disp.tabs,
    (x.release = true → x.index ∉ (s.head .a).queue → x.index ∉ (s.head .b).queue → x.state = .held ∨ x.state = .skipped) ∧
      (x.release = false → x.state = .queued ∨ x.state = .ordered ∨ x.state = .skipped) := by
  intro x hx
  have frames : FramesAlone (mapTables (s.written p w)) := mapTables_frames (written_frames hw)
  obtain ⟨i, hi⟩ := List.mem_iff_getElem?.1 hx
  have built := (entry_built frames).1 i x hi
  have start : MeetsTabs (entryRule (mapTables (s.written p w)) s.inQueue) (entryQueue (mapTables (s.written p w)) s.inQueue)
      (mapTables (s.written p w)) :=
    { tabs := fun i x hx => by
        have frame := frames i x hx
        obtain ⟨y, hy, rfl⟩ := mapTables_tab hx
        obtain ⟨z, -, rfl⟩ := tabTable_getElem? hy
        exact ⟨rfl, frame, ⟨_, hx, rfl⟩, fun _ _ => .inl rfl, fun _ => .inl rfl⟩
      queues := fun _ _ hi => .inl (s.written_queue p w hi)
      boards := fun _ _ _ => trivial }
  obtain ⟨index, -, -, release, plain⟩ := (entry_builds _ (entryRule_build _ s.inQueue) start).tabs i x hi
  subst index
  exact ⟨fun hr ha hb => (release hr (not_or.2 ⟨ha, hb⟩)).resolve_left built, fun hr => (plain hr).resolve_left built⟩

/-- Every board is mapped and tested against the envelope, and none that is ready is left ATTACHED (R38, R39, R47, R57). -/
theorem entered_boards {r : RecipeSlot} (hw : r.walk = .whole w)
    (apart : ∀ c, s.tracker.closing = some c → c.half ≠ p.half) : ∀ b ∈ (s.entered p w).half p.half,
      b.placed s.locator.active.map ∧ (s.entered p w).readyTest b = false := by
  intro b hb
  have outline := entered_outline s p w
  have panel := congrArg Outline.panel outline
  have closing := apart_of_outline (congrArg Outline.closing outline) apart
  obtain ⟨-, -, boards, -⟩ := settle_outline (locationPassed (retainMarked (mapTables (s.written p w)))) p.half
  have same := boards closing
  constructor
  · have mapped := board_fixed_mem_outline hb
    rw [State.entered, same, outline] at mapped
    obtain ⟨c, -, fixed⟩ := List.mem_map.1 mapped
    exact Board.placed_of_fixed fixed
  · obtain ⟨q, hq, -, -, half, -⟩ := settle_active panel
    obtain ⟨i, hi⟩ := List.mem_iff_getElem?.1 hb
    have active : (s.entered p w).boards .active = (s.entered p w).half p.half := by
      have : (s.entered p w).tracker.active = some q := hq
      simp [State.boards, State.panel, this, half]
    have before := boards_of_outline panel rfl
    have length : ((s.entered p w).half p.half).length =
        ((locationPassed (retainMarked (mapTables (s.written p w)))).half p.half).length := by
      rw [State.half_eq, State.half_eq]
      simpa [State.outline, State.entered] using congrArg List.length same
    have inside := (List.getElem?_eq_some_iff.1 hi).1
    refine (entry_built (mapTables_frames (written_frames hw))).2 i ?_ b (by rw [← State.entered, State.board, active, hi])
    exact (congrArg List.length before).symm ▸ length ▸ inside

/-! ### The event -/

theorem exec_expansionComplete (s : State) :
    exec .expansionComplete s = .next (if s.expanding then settle (expansionDone s) else s) := rfl

theorem inEnvelope_iff (u : Pt) :
    u.inEnvelope = true ↔ 0 ≤ u.x ∧ u.x ≤ 720000 ∧ 0 ≤ u.y ∧ u.y ≤ 620000 := by
  simp [Pt.inEnvelope, and_assoc]

/-- What every way keeps: the panel with its expansion ended, and of every entry what the walk gave it (R19 to R21). -/
theorem expanded_keeps (s : State) (p : Panel) (w : Walk) : ∃ q,
    (settle ((s.written p w).expanded p)).tracker.active = some q ∧ q.id = p.id ∧ q.expanding = false ∧
      (settle ((s.written p w).expanded p)).disp.tabs.map Tab.given = w.tabTable.map Tab.given ∧
      ((∀ c, s.tracker.closing = some c → c.half ≠ p.half) →
        ((settle ((s.written p w).expanded p)).half p.half).map Board.given = (w.boardTable p.bad).map Board.given) := by
  obtain ⟨x, panel, id, expanding, -, closing, tabs, boards⟩ := expanded_outline s p w
  obtain ⟨q, hq, id', expanding', -⟩ := settle_active panel
  obtain ⟨-, tabs', boards', -⟩ := settle_outline ((s.written p w).expanded p) p.half
  refine ⟨q, hq, id'.trans id, expanding'.trans expanding, ?_, fun apart => ?_⟩
  · rw [tabs_view p.half Tab.given fun _ => rfl, tabs', tabs]
  · rw [half_view Board.given fun _ => rfl, boards' (apart_of_outline closing apart), boards]

/-- A pending abort makes the panel DONE (R52). -/
theorem expanded_abort {q : Panel} (ha : p.abort.isSome = true)
    (hq : (settle ((s.written p w).expanded p)).tracker.active = some q) : q.state = .done := by
  have way : (s.written p w).expanded p = applyAbort (s.written p w) := by simp [State.expanded, ha]
  have panel : (((s.written p w).expanded p).outline p.half).panel =
      some { p with expanding := false, state := .done }.fixed := by
    rw [way, applyAbort_outline, written_outline]
    rfl
  obtain ⟨q', hq', -, -, -, -, state | ⟨-, state⟩⟩ := settle_active panel <;> cases hq'.symm.trans hq <;> exact state

/-- A pending refusal makes it REFUSED (R45, R46). -/
theorem expanded_refused {q : Panel} {o : LocOutcome} (ha : p.abort = none) (ho : p.pendingLoc = some o)
    (hq : (settle ((s.written p w).expanded p)).tracker.active = some q) : q.state = .refused ∧ q.stop = some o.stopReason := by
  have way : (s.written p w).expanded p = enterRefused o (s.written p w) := by simp [State.expanded, ha, ho]
  have panel : (((s.written p w).expanded p).outline p.half).panel =
      some { p with expanding := false, state := .refused, stop := some o.stopReason, pendingLoc := none }.fixed := by
    rw [way, enterRefused_outline, written_outline]
    rfl
  obtain ⟨q', hq', -, -, -, stop, state | ⟨cutting, -⟩⟩ := settle_active panel
  · cases hq'.symm.trans hq
    exact ⟨state, stop⟩
  · cases cutting

/-- With nothing pending and no location PASSED the panel waits in LOCATING, its tables as written (R21, R22). -/
theorem expanded_waits {q : Panel} (ha : p.abort = none) (ho : p.pendingLoc = none)
    (hl : s.locator.active.state ≠ .passed) (hs : p.state = .locating) (hev : s.ev = EventMarks.clear)
    (hq : (settle ((s.written p w).expanded p)).tracker.active = some q) :
    q = { p with expanding := false } ∧ (settle ((s.written p w).expanded p)).disp.tabs = w.tabTable ∧
      ((∀ c, s.tracker.closing = some c → c.half ≠ p.half) →
        (settle ((s.written p w).expanded p)).half p.half = w.boardTable p.bad) := by
  have way : (s.written p w).expanded p = s.written p w := by
    have loc : (s.written p w).locator.active.state ≠ .passed := hl
    simp [State.expanded, ha, ho, loc]
  have idle : (s.written p w).cutting = false := by simp [State.cutting, State.written_active, hs]
  have unasked : (s.written p w).ev.select = false := congrArg EventMarks.select hev
  obtain ⟨active, tabs, half⟩ := settle_quiet idle unasked
  rw [way] at hq ⊢
  refine ⟨?_, tabs, fun apart => ?_⟩
  · exact (Option.some.inj (hq.symm.trans active))
  · rw [State.half_eq, half p.half apart, State.written_half]

/-- A PASSED location takes the panel into CUTTING, its tables mapped (R38, R45, R47). -/
theorem expanded_passed {q : Panel} (ha : p.abort = none) (ho : p.pendingLoc = none) (hl : s.locator.active.state = .passed)
    (hq : (settle ((s.written p w).expanded p)).tracker.active = some q) :
    settle ((s.written p w).expanded p) = s.entered p w ∧ (q.state = .cutting ∨ q.state = .done) ∧
      (s.entered p w).locator.active.state = .mapped := by
  have way : settle ((s.written p w).expanded p) = s.entered p w := by
    have loc : (s.written p w).locator.active.state = .passed := hl
    simp [State.expanded, ha, ho, loc, State.entered]
  have outline := entered_outline s p w
  obtain ⟨q', hq', -, -, -, -, state⟩ := settle_active (congrArg Outline.panel outline)
  obtain ⟨loc, -⟩ := settle_outline (locationPassed (retainMarked (mapTables (s.written p w)))) p.half
  have same : q' = q := by
    rw [way, State.entered, hq'] at hq
    exact Option.some.inj hq
  refine ⟨way, same ▸ state.imp id And.right, ?_⟩
  rw [outline, outline_loc] at loc
  rw [State.entered, loc]

end

end Sys2Proof.Machine

namespace Sys2Proof.Machine

/-- Settles O23: the tables are those of the walk, the four ways are told apart by the abort mark, the pending refusal and the
locator's state, and cutting entry is read off the rules its operations keep. -/
theorem expansionCompletes : Obligations.ExpansionCompletes := by
  unfold Obligations.ExpansionCompletes
  intro s
  refine ⟨fun idle => by rw [exec_expansionComplete, idle, if_neg Bool.false_ne_true], ?_⟩
  intro p r w hp he hr hw boards tabs written follows
  have inFlight : s.expanding = true := by simp [State.expanding, hp, he]
  have event : exec .expansionComplete s = .next (settle ((s.written p w).expanded p)) := by
    rw [exec_expansionComplete, if_pos inFlight, expansionDone_eq hp he hr hw]
  obtain ⟨q, hq, id, expanding, keptTabs, keptBoards⟩ := expanded_keeps s p w
  refine ⟨settle ((s.written p w).expanded p), q, event, rfl, expanded_setup, hq, id, expanding, keptTabs, keptBoards,
    fun locating => ⟨fun abort => expanded_abort abort hq, fun o abort refusal => expanded_refused abort refusal hq,
      fun abort refusal loc marks => expanded_waits abort refusal loc locating marks hq⟩, fun abort refusal loc => ?_⟩
  obtain ⟨way, state, mapped⟩ := expanded_passed abort refusal loc hq
  rw [way]
  refine ⟨state, mapped, fun x hx => ?_, fun apart b hb => ?_⟩
  · obtain ⟨start, stop, reach⟩ := entered_tabs_placed s p w x hx
    obtain ⟨release, plain⟩ := entered_tabs_state hw x hx
    refine ⟨start, stop, ?_, release, plain⟩
    simp only [reach, Bool.not_eq_false', Bool.and_eq_true, inEnvelope_iff]
  · obtain ⟨⟨corrected, reach⟩, unready⟩ := entered_boards hw apart b hb
    refine ⟨corrected, ?_, fun ⟨attached, count, held⟩ => ?_⟩
    · simp only [reach, Bool.not_eq_false', inEnvelope_iff]
    · obtain ⟨x, hx, hs⟩ := Option.map_eq_some_iff.1 held
      exact Bool.eq_false_iff.1 unready ((readyTest_iff _ b).2 ⟨attached, count, x, hx, hs⟩)

end Sys2Proof.Machine
end

section
/-! The panel requests: PANEL_ANNOUNCE (R42), PANEL_START (R44), PANEL_EJECT (R49) and PANEL_ABORT (R51), each meaning said once
as its branches. -/

namespace Sys2Proof.Machine

variable {s : State}

/-! ### Ids in use (R42) -/

/-- The panel an id names: the active one, or else the closing one. -/
theorem State.panelRef_eq (s : State) (id : Nat) : s.panelRef id =
    if s.tracker.active.map Panel.id = some id then some .active
    else if s.tracker.closing.map Panel.id = some id then some .closing else none := by
  unfold State.panelRef
  cases s.tracker.active <;> cases s.tracker.closing <;> simp

/-- An id is in use when an announced panel, the active panel or the closing panel has it (R42). -/
theorem State.idUsed_iff (s : State) (id : Nat) : s.idUsed id = true ↔ (∃ a ∈ s.tracker.announce, a.id = id) ∨
    (∃ p, s.tracker.active = some p ∧ p.id = id) ∨ ∃ p, s.tracker.closing = some p ∧ p.id = id := by
  have ref : (s.panelRef id).isSome = true ↔
      (∃ p, s.tracker.active = some p ∧ p.id = id) ∨ ∃ p, s.tracker.closing = some p ∧ p.id = id := by
    simp only [State.panelRef_eq, ← Option.map_eq_some_iff]
    split
    · simp [*]
    · split <;> simp [*]
  simp [State.idUsed, ref]

/-- An id that is not in use names no announced panel and no panel in the part. -/
theorem State.idUsed_false {id : Nat} (h : s.idUsed id = false) :
    s.tracker.announce.any (fun a => a.id == id) = false ∧ s.panelRef id = none := by
  simpa [State.idUsed] using h

/-! ### PANEL_ABORT (R51) -/

/-- A PANEL_ABORT of an announced panel withdraws it (R51). -/
theorem doPanelAbort_announced {id : Nat} (h : ∃ a ∈ s.tracker.announce, a.id = id) :
    doPanelAbort id s = accepted (withdrawAnnounced id s) := if_pos (by simpa using h)

/-- A PANEL_ABORT of a panel that is not announced (R51). -/
theorem doPanelAbort_placed {id : Nat} (h : ∀ a ∈ s.tracker.announce, a.id ≠ id) :
    doPanelAbort id s =
      match s.panelRef id with
      | none => answered .notFound s
      | some .closing => answered .badState s
      | some .active =>
        match s.tracker.active with
        | none => answered .notFound s
        | some p =>
          if p.state = .locating ∨ p.state = .cutting then
            accepted (if p.abortable then settle (abortActive .aborted .aborted s) else s)
          else answered .badState s := if_neg (by simpa using h)

/-- Settles O18: each clause names the branch of its request that answers. -/
theorem panelRefusals : Obligations.PanelRefusals := by
  unfold Obligations.PanelRefusals
  intro src tag s hs
  refine ⟨?_, ?_, fun id => ?_⟩
  · intro refused
    have refuse {c : Code} (h : doPanelStart s = answered c s) : refused c :=
      exec_refused (r := ⟨src, tag, .panelStart⟩) rfl hs h
    refine ⟨fun busy => refuse ?_, fun free open_ => refuse ?_, fun free clamped empty => refuse ?_⟩
    · exact if_pos busy
    · simp [doPanelStart, free, open_]
    · simp [doPanelStart, free, clamped, empty]
  · intro refused
    have refuse {c : Code} (h : doPanelEject s = answered c s) : refused c :=
      exec_refused (r := ⟨src, tag, .panelEject⟩) rfl hs h
    refine ⟨fun absent => refuse ?_, fun p hp => ⟨fun working => refuse ?_, fun ended closing => refuse ?_⟩⟩
    · simp [doPanelEject, absent]
    · simp [doPanelEject, hp, working]
    · have idle : ¬ (p.state = .locating ∨ p.state = .cutting) := by rcases ended with h | h <;> simp [h]
      simp [doPanelEject, hp, idle, closing]
  · intro refused
    have refuse {c : Code} (h : doPanelAbort id s = answered c s) : refused c :=
      exec_refused (r := ⟨src, tag, .panelAbort id⟩) rfl hs h
    refine ⟨fun unused => refuse ?_, fun placed => ⟨fun p hp hid ended => refuse ?_, fun q hq hid other => refuse ?_⟩⟩
    · obtain ⟨announced, ref⟩ := State.idUsed_false unused
      rw [doPanelAbort_placed (by simpa using announced), ref]
    · have ref : s.panelRef id = some .active := by simp [State.panelRef_eq, hp, hid]
      have idle : ¬ (p.state = .locating ∨ p.state = .cutting) := by rcases ended with h | h <;> simp [h]
      simp only [doPanelAbort_placed placed, ref, hp, if_neg idle]
    · have apart : s.tracker.active.map Panel.id ≠ some id := fun h => by
        obtain ⟨p, hp, e⟩ := Option.map_eq_some_iff.1 h
        exact other p hp e
      have ref : s.panelRef id = some .closing := by simp [State.panelRef_eq, apart, hq, hid]
      rw [doPanelAbort_placed placed, ref]

/-! ### PANEL_ANNOUNCE (R42) -/

/-- Operands outside their ranges fail the first check (R42). -/
theorem doPanelAnnounce_range {slot : Nat} {bad : List Nat} (hl : s.recipes.slots.length = 8)
    (h : 8 ≤ slot ∨ 96 < bad.length ∨ (∃ i ∈ bad, 96 ≤ i) ∨ ¬ bad.Nodup) (id : Nat) :
    doPanelAnnounce id slot bad s = answered .range s := by
  unfold doPanelAnnounce
  cases hr : s.slotRec slot with
  | none => rfl
  | some r =>
    have operands := h.resolve_left fun h8 => by rw [State.slotRec_none hl h8] at hr; cases hr
    exact if_pos (by simpa [distinct] using operands)

/-- The checks of a PANEL_ANNOUNCE past the first (R42) as the model makes them, in their order, and its effect. -/
theorem doPanelAnnounce_of_slot {slot : Nat} {bad : List Nat} {r : RecipeSlot} (hr : s.recipes.slots[slot]? = some r)
    (h : ¬ (8 ≤ slot ∨ 96 < bad.length ∨ (∃ i ∈ bad, 96 ≤ i) ∨ ¬ bad.Nodup)) (id : Nat) :
    doPanelAnnounce id slot bad s =
      if 2 ≤ s.tracker.announce.length then answered .queueFull s
      else if r.mode ≠ .ready then answered .notReady s
      else if s.idUsed id then answered .duplicate s
      else if bad.all (fun i => decide (i < r.boards.getD 0)) = false then answered .range s
      else accepted { s with tracker := { s.tracker with
        announce := s.tracker.announce ++ [{ id := id, slot := slot, bad := bad }] } } := by
  have slot_ : s.slotRec slot = some r := hr
  have operands : ¬ (96 < bad.length ∨ bad.all (fun i => decide (i < 96)) = false ∨ distinct bad = false) := fun hb =>
    h (.inr (by simpa [distinct] using hb))
  simp only [doPanelAnnounce, slot_, if_neg operands]

/-- An announced panel's READY slot is IN_USE (R2, R42). -/
theorem State.inUse_of_announced {slot : Nat} {r : RecipeSlot} (hr : s.recipes.slots[slot]? = some r) (hm : r.mode = .ready)
    (h : ∃ a ∈ s.tracker.announce, a.slot = slot) : s.inUse slot = true := by
  have slot_ : s.slotRec slot = some r := hr
  simp [State.inUse, slot_, hm, (s.named_iff slot).2 (.inl h)]

/-- Settles O19: the checks of R42 in their order, and the withdrawal of R51. -/
theorem panelAnnounceAndWithdraw : Obligations.PanelAnnounceAndWithdraw := by
  unfold Obligations.PanelAnnounceAndWithdraw
  intro src tag id slot bad s hs hl refused first queued
  have refuse {c : Code} (h : doPanelAnnounce id slot bad s = answered c s) : refused c :=
    exec_refused (r := ⟨src, tag, .panelAnnounce id slot bad⟩) rfl hs h
  refine ⟨s.idUsed_iff id, fun h => refuse (doPanelAnnounce_range hl h id), fun h full => ?_, fun h room r hr => ?_, fun h => ?_⟩
  · have within : slot < s.recipes.slots.length := by
      rw [hl]
      exact Nat.lt_of_not_le fun h8 => h (.inl h8)
    refine refuse ?_
    rw [doPanelAnnounce_of_slot (List.getElem?_eq_getElem within) h, if_pos full]
  · have run := doPanelAnnounce_of_slot (s := s) hr h id
    rw [if_neg (by omega)] at run
    refine ⟨fun mode => refuse ?_, fun mode used => refuse ?_, fun mode used beyond => refuse ?_, fun mode used inside => ?_⟩
    · rw [run, if_pos mode]
    · rw [run, if_neg (by simp [mode]), if_pos used]
    · rw [run, if_neg (by simp [mode]), if_neg (by simp [used]), if_pos (by simpa using beyond)]
    · rw [if_neg (by simp [mode]), if_neg (by simp [used]), if_neg (by simpa using inside)] at run
      exact ⟨exec_accepted (r := ⟨src, tag, .panelAnnounce id slot bad⟩) rfl hs run,
        State.inUse_of_announced (s := queued) hr mode ⟨_, List.mem_append_right _ (List.mem_singleton_self _), rfl⟩⟩
  · exact exec_accepted (r := ⟨src, tag, .panelAbort id⟩) rfl hs (doPanelAbort_announced h)

/-! ### PANEL_START (R44) -/

/-- The board half of a new panel: the lower one that no closing panel holds (R44). -/
theorem State.freeHalf_eq (s : State) :
    s.freeHalf = if s.tracker.closing.map Panel.half = some .h0 then .h1 else .h0 := by
  unfold State.freeHalf
  cases s.tracker.closing <;> simp

/-- What an accepted PANEL_START writes before its LOCATE (R25, R44). -/
def State.started (s : State) (a : Announce) (rest : List Announce) (r : RecipeSlot) : State :=
  { s with
    tracker := { s.tracker with
      announce := rest, active := some (Panel.begin a (r.boards.getD 0) (r.tabs.getD 0) s.freeHalf) }
    locator := { s.locator with
      active := LocRec.begin a.id (r.nominal 0) (r.nominal 1) (r.nominal 2) ⟨s.param .fixtureX, s.param .fixtureY⟩ } }

/-- A PANEL_START that passes its checks starts the front announced panel (R44). -/
theorem doPanelStart_starts {a : Announce} {rest : List Announce} {r : RecipeSlot} (free : s.tracker.active = none)
    (clamped : s.lines.clamp.cond = true) (front : s.tracker.announce = a :: rest)
    (hr : s.recipes.slots[a.slot]? = some r) :
    doPanelStart s = (issueLocate (s.started a rest r), some (.ok, wordBytes a.id ++ [byteOf a.slot])) := by
  have slot : s.slotRec a.slot = some r := hr
  simp only [doPanelStart, free, clamped, front, slot]
  rfl

/-- Settles O20: LOCATE waits for RUN, is issued, or finds no vision node (R26). -/
theorem panelStartBegins : Obligations.PanelStartBegins := by
  unfold Obligations.PanelStartBegins
  intro src tag a rest r n0 n1 s hs free clamped front hr h0 h1 search p l t ok
  have start : s.started a rest r = t p l := by
    simp only [State.started, s.freeHalf_eq, h0, h1]
    rfl
  have answer {u : State} (h : issueLocate (t p l) = u) : ok u := by
    have run := doPanelStart_starts free clamped front hr
    rw [start, h] at run
    exact (exec_ready (r := ⟨src, tag, .panelStart⟩) rfl hs).trans (congrArg _ (handle_replied run))
  refine ⟨fun held => answer ?_, fun run seen => answer ?_, fun run blind => answer ?_⟩
  · exact if_neg fun h => by
      have running : s.running = true := h.2
      rw [held] at running
      cases running
  · have there : ¬ ((t p l).visionState = .offline ∨ (t p l).visionState = .fault) := by
      show ¬ (s.visionState = .offline ∨ s.visionState = .fault)
      rcases seen with h | h <;> simp [h]
    have third : (if l.wantF2 then l.s2 else none) = (r.nominal 2).map search := by
      cases h : r.nominal 2 <;> simp [l, h]
    have issue : issueLocate (t p l) = (writeOrder .vision (.locate a.id (search n0) (search n1)
        (if l.wantF2 then l.s2 else none)) (t p l)).modLoc fun r => { r with state := .measuring } :=
      (if_pos ⟨rfl, run⟩).trans (if_neg there)
    rw [issue, third]
    rfl
  · exact (if_pos ⟨rfl, run⟩).trans (if_pos blind)

/-! ### PANEL_EJECT (R49) -/

theorem State.inTransit_iff (s : State) (ref : PanelRef) :
    s.inTransit ref = true ↔ ∃ b ∈ s.boards ref, b.state = .inTransit := by simp [State.inTransit]

/-- A PANEL_EJECT that passes its checks (R49). -/
theorem doPanelEject_passes {p : Panel} (hp : s.tracker.active = some p) (ended : p.state = .done ∨ p.state = .refused)
    (alone : s.tracker.closing = none) :
    doPanelEject s = if s.inTransit .active then accepted (startClosing s) else accepted (closePanel .active s) := by
  have idle : ¬ (p.state = .locating ∨ p.state = .cutting) := by rcases ended with h | h <;> simp [h]
  simp [doPanelEject, hp, idle, alone]

/-- Settles O21: the panel closes, or becomes the closing panel while a board is IN_TRANSIT (R49, R50). -/
theorem panelEjectClosesOrMoves : Obligations.PanelEjectClosesOrMoves := by
  unfold Obligations.PanelEjectClosesOrMoves
  intro src tag p s hs hp ended free ok
  have run := doPanelEject_passes hp ended free
  have answer {t : State} (h : doPanelEject s = accepted t) : ok t :=
    exec_accepted (r := ⟨src, tag, .panelEject⟩) rfl hs h
  refine ⟨fun placed => answer ?_, fun moving => answer ?_⟩
  · have unmoved : s.inTransit .active = false := Bool.eq_false_iff.2 fun h => by
      obtain ⟨b, hb, state⟩ := (s.inTransit_iff .active).1 h
      exact placed b hb state
    rw [run, unmoved, if_neg Bool.false_ne_true]
    simp only [closePanel, State.panel, hp]
    cases p.half <;> rfl
  · rw [run, if_pos ((s.inTransit_iff .active).2 moving), startClosing, hp]
    rfl

end Sys2Proof.Machine
end

section
/-! How a state is read after the tracker's and the dispatcher's shared operations: what a retention and a loss leave of the
boards, the tabs and the bin (R58 to R61, R65, R71), each said once. -/

namespace Sys2Proof.Machine

/-! ### What is read from the tracker alone -/

section
variable {s t : State}

theorem State.board_congr (h : t.tracker = s.tracker) (ref : PanelRef) (b : Nat) : t.board ref b = s.board ref b := by
  cases ref <;> simp only [State.board, State.boards, State.panel, State.half_eq, h]

theorem State.boardState_congr (h : t.tracker = s.tracker) (ref : PanelRef) (b : Nat) :
    t.boardState ref b = s.boardState ref b := by
  rw [State.boardState, State.boardState, State.board_congr h]

theorem State.panelRef_congr (h : t.tracker = s.tracker) (id : Nat) : t.panelRef id = s.panelRef id := by
  rw [State.panelRef_eq, State.panelRef_eq, h]

theorem State.activeId_congr (h : t.tracker = s.tracker) : t.activeId = s.activeId := by
  simp only [State.activeId, h]

theorem State.abortMarked_congr (h : t.tracker = s.tracker) : t.abortMarked = s.abortMarked := by
  simp only [State.abortMarked, h]

/-- The active panel's boards are read from its half. -/
theorem State.board_active {p : Panel} (hp : s.tracker.active = some p) (b : Nat) :
    s.board .active b = (s.half p.half)[b]? := by simp [State.board, State.boards, State.panel, hp]

/-- The closing panel's boards are read from its half. -/
theorem State.board_closing {c : Panel} (hc : s.tracker.closing = some c) (b : Nat) :
    s.board .closing b = (s.half c.half)[b]? := by simp [State.board, State.boards, State.panel, hc]

theorem State.boardState_of_board {ref : PanelRef} {b : Nat} {r : Board} (h : s.board ref b = some r) :
    s.boardState ref b = some r.state := by simp [State.boardState, h]

/-- The active panel is the first its id names. -/
theorem State.panelRef_active {p : Panel} {id : Nat} (hp : s.tracker.active = some p) (h : p.id = id) :
    s.panelRef id = some .active := by simp [State.panelRef_eq, hp, h]

theorem State.panelRef_closing {c : Panel} {id : Nat} (hc : s.tracker.closing = some c) (h : c.id = id)
    (apart : ∀ p, s.tracker.active = some p → p.id ≠ id) : s.panelRef id = some .closing := by
  have other : s.tracker.active.map Panel.id ≠ some id := fun e => by
    obtain ⟨p, hp, e⟩ := Option.map_eq_some_iff.1 e
    exact apart p hp e
  simp [State.panelRef_eq, other, hc, h]

/-- A notice class after an event (R191). -/
theorem raise_notice (d : Detail) (s : State) (k : Nat) :
    (raise d s).notice k = if d.cls = k then (s.notice k).map (NoticeRec.raise d) else s.notice k := by
  simp only [State.notice, raise_notices, List.getElem?_modify]
  split <;> simp

end

/-! ### One board changed -/

section
variable (s : State)

theorem State.modBoard_panel (ref k : PanelRef) (b : Nat) (f : Board → Board) : (s.modBoard ref b f).panel k = s.panel k := by
  unfold State.modBoard
  split
  · exact State.setHalf_panel ..
  · rfl

/-- The boards of the panel that is changed, for either panel. -/
theorem State.modBoard_same (ref : PanelRef) (b j : Nat) (f : Board → Board) :
    (s.modBoard ref b f).board ref j = if b = j then (s.board ref j).map f else s.board ref j := by
  have boards : (s.modBoard ref b f).boards ref = (s.boards ref).modify b f := by
    unfold State.boards
    rw [State.modBoard_panel]
    cases hp : s.panel ref with
    | none => simp
    | some p => simp [State.modBoard, hp, State.setHalf_half]
  simp only [State.board, boards, List.getElem?_modify]
  split <;> simp

theorem State.modBoard_self {ref : PanelRef} {b : Nat} {r : Board} (f : Board → Board) (h : s.board ref b = some r) :
    (s.modBoard ref b f).board ref b = some (f r) := by simp [State.modBoard_same, h]

/-- A change of a board is a change of its half alone. -/
theorem State.modBoard_tracker (ref : PanelRef) (b : Nat) (f : Board → Board) : ∃ x y,
    s.modBoard ref b f = { s with tracker := { s.tracker with half0 := x, half1 := y } } := by
  unfold State.modBoard
  split
  · next p _ => cases p.half <;> exact ⟨_, _, rfl⟩
  · exact ⟨_, _, rfl⟩

/-- The record of the panel that is changed. -/
theorem State.modPanel_panel (ref : PanelRef) (f : Panel → Panel) : (s.modPanel ref f).panel ref = (s.panel ref).map f := by
  cases ref <;> rfl

theorem State.modPanel_half (ref : PanelRef) (f : Panel → Panel) (h : Half) : (s.modPanel ref f).half h = s.half h := by
  cases ref <;> cases h <;> rfl

/-- A panel's record changed, its half apart, changes no board. -/
theorem State.modPanel_board (ref k : PanelRef) {f : Panel → Panel} (hf : ∀ p, (f p).half = p.half) (b : Nat) :
    (s.modPanel ref f).board k b = s.board k b := by
  simp only [State.board, State.boards, State.modPanel_half]
  cases ref <;> cases k <;> simp only [State.panel, State.modPanel]
  · cases s.tracker.active <;> simp [hf]
  · cases s.tracker.closing <;> simp [hf]

end

/-! ### How the tabs stand set aside -/

/-- A board entry without its open-tab count. -/
def Board.bare (b : Board) : Board := { b with openTabs := 0 }

/-- A head's record without its queue. -/
def HeadRec.bare (r : HeadRec) : HeadRec := { r with queue := [] }

/-- The state without the tab entries, the lists they stand in, and the boards' open-tab counts: what queueing and skipping tabs
leaves alone. -/
def State.bare (s : State) : State :=
  { s with
    tracker := { s.tracker with half0 := s.tracker.half0.map Board.bare, half1 := s.tracker.half1.map Board.bare }
    disp := { s.disp with
      tabs := [], heads := ⟨s.disp.heads.a.bare, s.disp.heads.b.bare⟩, unassigned := [] } }

/-- Tab i stands in a queue or in the unassigned list. -/
def State.listed (s : State) (i : Nat) : Prop := i ∈ (s.head .a).queue ∨ i ∈ (s.head .b).queue ∨ i ∈ s.disp.unassigned

section
variable {s t : State}

theorem State.bare_half (s : State) (h : Half) : s.bare.half h = (s.half h).map Board.bare := by cases h <;> rfl

/-- The boards of a state as its bare form shows them. -/
theorem State.bare_board (s : State) (ref : PanelRef) (b : Nat) : s.bare.board ref b = (s.board ref b).map Board.bare := by
  have panel : s.bare.panel ref = s.panel ref := by cases ref <;> rfl
  simp only [State.board, State.boards, panel]
  cases s.panel ref <;> simp [State.bare_half]

theorem State.boardState_of_bare (h : t.bare = s.bare) (ref : PanelRef) (b : Nat) :
    t.boardState ref b = s.boardState ref b := by
  have e := congrArg (fun x => (State.board x ref b).map Board.state) h
  simpa [State.bare_board, State.boardState, Function.comp_def, Board.bare] using e

theorem State.isRetained_of_bare (h : t.bare = s.bare) (b : Nat) : t.isRetained b = s.isRetained b := by
  simp only [State.isRetained, State.boardState_of_bare h]

theorem State.head_of_bare (h : t.bare = s.bare) (k : Head) : (t.head k).bare = (s.head k).bare := by
  have e := congrArg (fun x => State.head x k) h
  cases k <;> exact e

/-- The blocks beside the tracker and the dispatcher are as the bare state has them. -/
theorem State.blocks_of_bare (h : t.bare = s.bare) : t.hand = s.hand ∧ t.ring = s.ring ∧ t.notices = s.notices ∧
    t.lines = s.lines ∧ t.req = s.req ∧ t.ev = s.ev ∧ t.spindle = s.spindle := by
  have read {α : Type} (f : State → α) : f t.bare = f s.bare := congrArg f h
  exact ⟨read State.hand, read State.ring, read State.notices, read State.lines, read State.req, read State.ev,
    read State.spindle⟩

/-- Of the tracker the bare state lacks the boards' open-tab counts alone. -/
theorem State.tracker_of_bare (h : t.bare = s.bare) :
    t.tracker = { s.tracker with half0 := t.tracker.half0, half1 := t.tracker.half1 } := by
  have e := congrArg State.tracker h
  simp only [State.bare, Tracker.mk.injEq] at e
  obtain ⟨announce, active, closing, -, -, queue, last, total⟩ := e
  dsimp only
  rw [← announce, ← active, ← closing, ← queue, ← last, ← total]

/-- A fold of operations that each keep the bare state keeps it. -/
theorem foldl_bare {α : Type} {f : State → α → State} (hf : ∀ s a, (f s a).bare = s.bare) (l : List α) (s : State) :
    (l.foldl f s).bare = s.bare := by
  induction l generalizing s with
  | nil => rfl
  | cons a l ih => rw [List.foldl_cons, ih, hf]

end

section
variable (s : State)

theorem State.modBoard_bare (ref : PanelRef) (b : Nat) {f : Board → Board} (hf : ∀ r, (f r).bare = r.bare) :
    (s.modBoard ref b f).bare = s.bare := by
  unfold State.modBoard
  split
  · next p _ =>
    have same (h : Half) : ((s.half h).modify b f).map Board.bare = (s.half h).map Board.bare := map_modify_of_fixed _ _ hf
    cases p.half with
    | h0 => exact congrArg (fun x => { s.bare with tracker := { s.bare.tracker with half0 := x } }) (same .h0)
    | h1 => exact congrArg (fun x => { s.bare with tracker := { s.bare.tracker with half1 := x } }) (same .h1)
  · rfl

@[simp] theorem State.modTab_bare (i : Nat) (f : Tab → Tab) : (s.modTab i f).bare = s.bare := rfl

@[simp] theorem leaveLists_bare (i : Nat) : (leaveLists i s).bare = s.bare := rfl

@[simp] theorem lowerBoard_bare (b : Nat) : (lowerBoard b s).bare = s.bare := s.modBoard_bare .active b fun _ => rfl

@[simp] theorem lowerCounts_bare (x : Tab) : (lowerCounts x s).bare = s.bare := by
  unfold lowerCounts; split <;> simp

@[simp] theorem markSkipped_bare (i : Nat) (w : SkipReason) : (markSkipped i w s).bare = s.bare := by
  unfold markSkipped; split <;> simp

@[simp] theorem skipTab_bare (i : Nat) : (skipTab i s).bare = s.bare := by
  unfold skipTab; (repeat' split) <;> simp

@[simp] theorem skipFor_bare (b i : Nat) : (skipFor b s i).bare = s.bare := by
  unfold skipFor; (repeat' split) <;> simp

@[simp] theorem skipTabsOf_bare (b : Nat) : (skipTabsOf b s).bare = s.bare := foldl_bare (fun s i => skipFor_bare s b i) _ s

@[simp] theorem putTab_bare (i : Nat) (p : Place) (front : Bool) : (putTab i p front s).bare = s.bare := by cases p <;> rfl

@[simp] theorem reassign_bare (i : Nat) : (reassign s i).bare = s.bare := by
  unfold reassign; split <;> simp

@[simp] theorem State.modHead_queue_bare (h : Head) (l : List Nat) :
    (s.modHead h fun r => { r with queue := l }).bare = s.bare := by cases h <;> rfl

@[simp] theorem moveOut_bare (h : Head) : (moveOut h s).bare = s.bare := by
  unfold moveOut; dsimp only; (repeat' split) <;> simp [foldl_bare]

@[simp] theorem grant_bare (i : Nat) : (grant i s).bare = s.bare := by
  unfold grant; (repeat' split) <;> simp

end

/-! ### Tabs in their lists -/

section
variable (s : State)

theorem leaveLists_listed (i k : Nat) : (leaveLists i s).listed k ↔ s.listed k ∧ k ≠ i := by
  simp only [State.listed, State.head, PerHead.get, leaveLists, List.mem_filter, bne_iff_ne, ← or_and_right]

theorem State.listed_congr {s t : State} (hh : t.disp.heads = s.disp.heads) (hu : t.disp.unassigned = s.disp.unassigned)
    (i : Nat) : t.listed i ↔ s.listed i := by simp only [State.listed, State.head, hh, hu]

theorem lowerCounts_tab (x : Tab) (i : Nat) : (lowerCounts x s).tab i = s.tab i := by rw [State.tab, lowerCounts_disp, State.tab]

theorem lowerCounts_listed (x : Tab) (i : Nat) : (lowerCounts x s).listed i ↔ s.listed i :=
  State.listed_congr (by rw [lowerCounts_disp]) (by rw [lowerCounts_disp]) i

/-- A skip leaves the other tabs as they are. -/
theorem markSkipped_tab_ne {i j : Nat} (h : j ≠ i) (w : SkipReason) : (markSkipped j w s).tab i = s.tab i := by
  unfold markSkipped
  split
  · rw [lowerCounts_tab, State.modTab_tab, if_neg h]; rfl
  · rfl

/-- A skipped tab stands in no list, and no tab joins one (R71). -/
theorem markSkipped_listed (j : Nat) (w : SkipReason) (k : Nat) (h : (markSkipped j w s).listed k) :
    s.listed k ∧ (k = j → s.tab j = none) := by
  unfold markSkipped at h
  split at h
  · next t _ =>
    have marked : ((leaveLists j s).modTab j (Tab.skipped w)).listed k := (lowerCounts_listed _ t k).1 h
    have left := (leaveLists_listed s j k).1 marked
    exact ⟨left.1, fun e => absurd e left.2⟩
  · next absent => exact ⟨h, fun _ => absent⟩

/-- A tab as a skip request leaves it (R71). -/
inductive Tab.SkipAsked (x : Tab) : Tab → Prop
  | kept : Tab.SkipAsked x x
  | skipped (w : SkipReason) (h : x.state = .pending ∨ x.state = .queued ∨ x.state = .held) : Tab.SkipAsked x (x.skipped w)
  | standing (h : x.state = .ordered) : Tab.SkipAsked x { x with standing := true }

theorem skipTab_tab_ne {i j : Nat} (h : j ≠ i) : (skipTab j s).tab i = s.tab i := by
  unfold skipTab
  (repeat' split) <;> first
    | rfl
    | exact markSkipped_tab_ne s h _
    | rw [State.modTab_tab, if_neg h]

theorem skipTab_listed (j k : Nat) (h : (skipTab j s).listed k) : s.listed k := by
  unfold skipTab at h
  (repeat' split at h) <;> first
    | exact h
    | exact (markSkipped_listed s j _ k h).1

variable {s} in
/-- What a skip request does to its tab (R71). -/
theorem skipTab_tab {i : Nat} {x : Tab} (hx : s.tab i = some x) : ∃ y, (skipTab i s).tab i = some y ∧ x.SkipAsked y := by
  unfold skipTab
  rw [hx]
  dsimp only
  cases hs : x.state
  case pending => exact ⟨_, markSkipped_tab _ hx, .skipped _ (.inl hs)⟩
  case queued => exact ⟨_, markSkipped_tab _ hx, .skipped _ (.inr (.inl hs))⟩
  case held => exact ⟨_, markSkipped_tab _ hx, .skipped _ (.inr (.inr hs))⟩
  case ordered => exact ⟨_, by rw [State.modTab_tab, if_pos rfl, hx]; rfl, .standing hs⟩
  all_goals exact ⟨x, hx, .kept⟩

variable {s} in
/-- A skip request of a QUEUED or HELD tab skips it, and it stands in no list (R71). -/
theorem skipTab_skips {i : Nat} {x : Tab} (hx : s.tab i = some x) (hs : x.state = .queued ∨ x.state = .held) :
    ((skipTab i s).tab i).map Tab.state = some .skipped ∧ ¬ (skipTab i s).listed i := by
  have out (w : SkipReason) : ((markSkipped i w s).tab i).map Tab.state = some .skipped ∧ ¬ (markSkipped i w s).listed i :=
    ⟨by rw [markSkipped_tab w hx]; rfl, fun h => by simp [(markSkipped_listed s i w i h).2 rfl] at hx⟩
  unfold skipTab
  rw [hx]
  rcases hs with hs | hs <;> simp only [hs] <;> exact out _

theorem skipFor_eq (b i : Nat) : skipFor b s i = s ∨ skipFor b s i = skipTab i s := by
  unfold skipFor
  (repeat' split) <;> simp

theorem skipFor_tab_ne {i j : Nat} (b : Nat) (h : j ≠ i) : (skipFor b s j).tab i = s.tab i := by
  rcases skipFor_eq s b j with e | e <;> rw [e]
  exact skipTab_tab_ne s h

theorem skipFor_listed (b j k : Nat) (h : (skipFor b s j).listed k) : s.listed k := by
  rcases skipFor_eq s b j with e | e <;> rw [e] at h
  · exact h
  · exact skipTab_listed s j k h

/-- A FRAME tab of the board is asked to be skipped (R60). -/
theorem skipFor_own {s : State} {b i : Nat} {x : Tab} (hx : s.tab i = some x) (kind : x.kind = .frame) (owner : x.owner = b) :
    skipFor b s i = skipTab i s := by simp [skipFor, hx, kind, owner]

/-- A pass over the tabs that touches at each its own entry: entry i is as its own turn leaves it, and what stands in a list at
the end stood in one after that turn. -/
theorem foldl_range_tab {f : State → Nat → State} (own : ∀ s i j, j ≠ i → (f s j).tab i = s.tab i)
    (out : ∀ s j k, (f s j).listed k → s.listed k) {n i : Nat} (hi : i < n) :
    ∃ u, u.tab i = s.tab i ∧ ((List.range n).foldl f s).tab i = (f u i).tab i ∧
      ∀ k, ((List.range n).foldl f s).listed k → (f u i).listed k := by
  have before (l : List Nat) (h : i ∉ l) (s : State) : (l.foldl f s).tab i = s.tab i := by
    induction l generalizing s with
    | nil => rfl
    | cons a l ih =>
      obtain ⟨hne, hl⟩ := not_or.1 (mt List.mem_cons.2 h)
      rw [List.foldl_cons, ih hl, own s i a (Ne.symm hne)]
  have listed (l : List Nat) (s : State) (k : Nat) (h : (l.foldl f s).listed k) : s.listed k := by
    induction l generalizing s with
    | nil => exact h
    | cons a l ih => exact out s a k (ih _ h)
  obtain ⟨l, l', e⟩ := List.append_of_mem (List.mem_range.2 hi)
  have nodup : (l ++ i :: l').Nodup := e ▸ List.nodup_range
  obtain ⟨hl, hl'⟩ : i ∉ l ∧ i ∉ l' := by
    rw [List.nodup_append, List.nodup_cons] at nodup
    exact ⟨fun h => nodup.2.2 i h i List.mem_cons_self rfl, nodup.2.1.1⟩
  refine ⟨l.foldl f s, before l hl s, ?_, fun k h => ?_⟩
  · rw [e, List.foldl_append, List.foldl_cons, before l' hl']
  · rw [e, List.foldl_append, List.foldl_cons] at h
    exact listed l' _ k h

variable {s} in
/-- The skips of a retained board come to each tab once (R60). -/
theorem skipTabsOf_turn {i : Nat} {x : Tab} (b : Nat) (hx : s.tab i = some x) : ∃ u, u.tab i = some x ∧
    (skipTabsOf b s).tab i = (skipFor b u i).tab i ∧ ∀ k, (skipTabsOf b s).listed k → (skipFor b u i).listed k := by
  have hi : i < s.disp.tabs.length := (List.getElem?_eq_some_iff.1 hx).1
  obtain ⟨u, hu, turn, listed⟩ := foldl_range_tab s (fun s i j h => skipFor_tab_ne s b h) (fun s => skipFor_listed s b) hi
  exact ⟨u, hu.trans hx, turn, listed⟩

variable {s} in
/-- What the skips of a retained board do to a tab (R60, R71). -/
theorem skipTabsOf_tab {i : Nat} {x : Tab} (b : Nat) (hx : s.tab i = some x) :
    ∃ y, (skipTabsOf b s).tab i = some y ∧ x.SkipAsked y := by
  obtain ⟨u, hu, turn, -⟩ := skipTabsOf_turn b hx
  rcases skipFor_eq u b i with e | e <;> rw [turn, e]
  · exact ⟨x, hu, .kept⟩
  · exact skipTab_tab hu

variable {s} in
/-- A tab that is DONE, SKIPPED or FAILED stays as it is (R71). -/
theorem skipTabsOf_tab_over {i : Nat} {x : Tab} (b : Nat) (hx : s.tab i = some x)
    (h : x.state = .done ∨ x.state = .skipped ∨ x.state = .failed) : (skipTabsOf b s).tab i = some x := by
  obtain ⟨y, hy, asked⟩ := skipTabsOf_tab b hx
  cases asked with
  | kept => exact hy
  | skipped w hs => rcases h with h | h | h <;> simp [h] at hs
  | standing hs => rcases h with h | h | h <;> simp [h] at hs

variable {s} in
/-- A FRAME tab of the retained board that is QUEUED or HELD is skipped, and stands in no list (R60, R71). -/
theorem skipTabsOf_own {i b : Nat} {x : Tab} (hx : s.tab i = some x) (kind : x.kind = .frame) (owner : x.owner = b)
    (hs : x.state = .queued ∨ x.state = .held) :
    ((skipTabsOf b s).tab i).map Tab.state = some .skipped ∧ ¬ (skipTabsOf b s).listed i := by
  obtain ⟨u, hu, turn, listed⟩ := skipTabsOf_turn b hx
  rw [skipFor_own hu kind owner] at turn listed
  obtain ⟨skipped, gone⟩ := skipTab_skips hu hs
  exact ⟨by rw [turn, skipped], fun h => gone (listed i h)⟩

variable {s} in
/-- An ORDERED tab stays so, and a FRAME tab of the retained board has a skip standing (R60, R71). -/
theorem skipTabsOf_ordered {i b : Nat} {x : Tab} (hx : s.tab i = some x) (hs : x.state = .ordered) :
    ∃ y, (skipTabsOf b s).tab i = some y ∧ y.state = .ordered ∧ (x.kind = .frame → x.owner = b → y.standing = true) := by
  obtain ⟨u, hu, turn, -⟩ := skipTabsOf_turn b hx
  have asked : (skipTab i u).tab i = some { x with standing := true } := by
    have turn : skipTab i u = u.modTab i fun t => { t with standing := true } := by simp [skipTab, hu, hs]
    rw [turn, State.modTab_tab, if_pos rfl, hu]
    rfl
  rcases skipFor_eq u b i with e | e
  · refine ⟨x, by rw [turn, e, hu], hs, fun kind owner => ?_⟩
    have same := skipFor_own hu kind owner
    rw [← same, e, hu] at asked
    exact (congrArg Tab.standing (Option.some.inj asked)).trans rfl
  · exact ⟨{ x with standing := true }, by rw [turn, e, asked], hs, fun _ _ => rfl⟩

end

/-! ### Open-tab counts -/

/-- From s to t the active panel's boards keep all but their open-tab counts, and no count rises. -/
def Lowers (s t : State) : Prop :=
  ∀ j r, s.board .active j = some r → ∃ n ≤ r.openTabs, t.board .active j = some { r with openTabs := n }

section
variable {s t u : State}

theorem Lowers.refl (s : State) : Lowers s s := fun _ r h => ⟨r.openTabs, le_rfl, h⟩

theorem Lowers.trans (h : Lowers s t) (k : Lowers t u) : Lowers s u := fun j r hr => by
  obtain ⟨n, hn, ht⟩ := h j r hr
  obtain ⟨m, hm, hu⟩ := k j _ ht
  exact ⟨m, hm.trans hn, hu⟩

theorem Lowers.of_tracker (h : t.tracker = s.tracker) : Lowers s t := fun j r hr =>
  ⟨r.openTabs, le_rfl, by rw [State.board_congr h, hr]⟩

theorem Lowers.foldl {α : Type} {f : State → α → State} (hf : ∀ s a, Lowers s (f s a)) (s : State) (l : List α) :
    Lowers s (l.foldl f s) := by
  induction l generalizing s with
  | nil => exact .refl s
  | cons a l ih => exact (hf s a).trans (ih _)

theorem lowerBoard_lowers (b : Nat) (s : State) : Lowers s (lowerBoard b s) := by
  intro j r hr
  rw [lowerBoard, State.modBoard_board]
  split
  · exact ⟨r.openTabs - 1, Nat.sub_le .., by rw [hr]; rfl⟩
  · exact ⟨r.openTabs, le_rfl, hr⟩

theorem lowerCounts_lowers (x : Tab) (s : State) : Lowers s (lowerCounts x s) := by
  unfold lowerCounts
  split
  · exact (lowerBoard_lowers _ s).trans (lowerBoard_lowers _ _)
  · exact lowerBoard_lowers _ s

theorem markSkipped_lowers (i : Nat) (w : SkipReason) (s : State) : Lowers s (markSkipped i w s) := by
  unfold markSkipped
  split
  · next t _ =>
    have marked : Lowers s ((leaveLists i s).modTab i (Tab.skipped w)) := .of_tracker rfl
    exact marked.trans (lowerCounts_lowers t _)
  · exact .refl s

theorem skipTab_lowers (i : Nat) (s : State) : Lowers s (skipTab i s) := by
  unfold skipTab
  (repeat' split) <;> first | exact .refl s | exact markSkipped_lowers i _ s

theorem skipTabsOf_lowers (b : Nat) (s : State) : Lowers s (skipTabsOf b s) := by
  refine Lowers.foldl (fun s i => ?_) s _
  rcases skipFor_eq s b i with e | e <;> rw [e]
  · exact .refl s
  · exact skipTab_lowers i s

end

/-! ### The bin's part -/

section
variable (s : State)

/-- A bad-marked board with a place in the bin gives it up (R58). -/
theorem giveUpBin_hand (r : Board) : (giveUpBin r s).hand =
    { s.hand with binReserved := s.hand.binReserved - (if r.bad = true ∧ r.dest = some .bin then 1 else 0) } := by
  unfold giveUpBin
  split
  · rfl
  · rfl

@[simp] theorem giveUpBin_rest (r : Board) : (giveUpBin r s).ring = s.ring ∧ (giveUpBin r s).notices = s.notices ∧
    (giveUpBin r s).lines = s.lines ∧ (giveUpBin r s).ev = s.ev ∧ (giveUpBin r s).spindle = s.spindle ∧
      (giveUpBin r s).req = s.req := by
  unfold giveUpBin
  split <;> exact ⟨rfl, rfl, rfl, rfl, rfl, rfl⟩

/-- A contingency place that is held is released (R144). -/
theorem releaseContingency_hand {v : Service} (h : s.hand.service = some v) : (releaseContingency s).hand =
    { s.hand with
      service := some { v with contingency := false }
      binReserved := s.hand.binReserved - (if v.contingency then 1 else 0) } := by
  cases hc : v.contingency with
  | true => simp [releaseContingency, h, hc]
  | false =>
    have kept : releaseContingency s = s := by simp [releaseContingency, h, hc]
    have same : ({ v with contingency := false } : Service) = v := by rw [← hc]
    rw [kept, same, ← h]
    rfl

@[simp] theorem releaseContingency_rest : (releaseContingency s).ring = s.ring ∧ (releaseContingency s).notices = s.notices ∧
    (releaseContingency s).lines = s.lines ∧ (releaseContingency s).ev = s.ev ∧
      (releaseContingency s).spindle = s.spindle ∧ (releaseContingency s).req = s.req := by
  unfold releaseContingency
  (repeat' split) <;> exact ⟨rfl, rfl, rfl, rfl, rfl, rfl⟩

end

/-! ### Loss (R65) -/

section
variable {s : State} {ref : PanelRef} {b : Nat} {p : Panel} {r : Board}

/-- A board that is in no terminal state becomes LOST (R65, R68). -/
theorem loseBoard_eq (why : LostReason) (hp : s.panel ref = some p) (hr : s.board ref b = some r)
    (hs : r.state.terminal = false) : loseBoard ref b why s = raise (.boardLost p.id b why)
      (giveUpBin r ((setBoardState ref b (.lost why) s).modPanel ref Panel.countLost)) := by
  simp [loseBoard, hp, hr, hs]

/-- What a loss writes beside the tables (R58, R65). -/
structure Lost (ref : PanelRef) (b : Nat) (why : LostReason) (p : Panel) (r : Board) (s t : State) : Prop where
  board : t.board ref b = some { r with state := .lost why }
  others : ∀ j, j ≠ b → t.board ref j = s.board ref j
  panel : t.panel ref = some p.countLost
  hand : t.hand =
    { s.hand with binReserved := s.hand.binReserved - (if r.bad = true ∧ r.dest = some .bin then 1 else 0) }
  notice : ∀ k, t.notice k = if k = 15 then (s.notice 15).map (NoticeRec.raise (.boardLost p.id b why)) else s.notice k
  disp : t.disp = s.disp
  ring : t.ring = s.ring
  lines : t.lines = s.lines
  req : t.req = s.req
  ev : t.ev = s.ev
  spindle : t.spindle = s.spindle
  tracker : t.tracker = { s.tracker with
    active := t.tracker.active, closing := t.tracker.closing, half0 := t.tracker.half0, half1 := t.tracker.half1 }
  active : ref = .closing → t.tracker.active = s.tracker.active
  closing : ref = .active → t.tracker.closing = s.tracker.closing

/-- A board that is in no terminal state becomes LOST, counted and reported (R65, R68). -/
theorem loseBoard_lost (why : LostReason) (hp : s.panel ref = some p) (hr : s.board ref b = some r)
    (hs : r.state.terminal = false) : Lost ref b why p r s (loseBoard ref b why s) := by
  rw [loseBoard_eq why hp hr hs]
  obtain ⟨x, y, e⟩ := s.modBoard_tracker ref b fun r => { r with state := .lost why }
  have written : setBoardState ref b (.lost why) s = { s with tracker := { s.tracker with half0 := x, half1 := y } } := e
  set u := (setBoardState ref b (.lost why) s).modPanel ref Panel.countLost with hu
  have boards (j : Nat) : u.board ref j = (setBoardState ref b (.lost why) s).board ref j :=
    State.modPanel_board _ ref ref (f := Panel.countLost) (fun _ => rfl) j
  have panel : u.panel ref = some p.countLost := by
    rw [hu, State.modPanel_panel, setBoardState, State.modBoard_panel, hp]
    rfl
  have tracker : (raise (.boardLost p.id b why) (giveUpBin r u)).tracker = u.tracker := by simp
  obtain ⟨ring, notices, lines, ev, spindle, req⟩ := giveUpBin_rest u r
  exact
    { board := by rw [State.board_congr tracker, boards, setBoardState, State.modBoard_self s _ hr]
      others := fun j hj => by
        rw [State.board_congr tracker, boards, setBoardState, State.modBoard_same, if_neg (Ne.symm hj)]
      panel := by
        rw [← panel]
        cases ref <;> simp only [State.panel, tracker]
      hand := by rw [raise_hand, giveUpBin_hand, hu, State.modPanel_hand, written]
      notice := fun k => by
        have same : (giveUpBin r u).notice k = s.notice k := by
          rw [State.notice, notices, hu, State.modPanel_notices, written, State.notice]
        rw [raise_notice, same]
        by_cases hk : k = 15
        · subst hk; rfl
        · rw [if_neg hk]; exact if_neg (Ne.symm hk)
      disp := by rw [raise_disp, (giveUpBin_frame _ r).2.1, hu, State.modPanel_disp, written]
      ring := by rw [raise_ring, ring, hu, State.modPanel_ring, written]
      lines := by rw [raise_lines, lines, hu, State.modPanel_lines, written]
      req := by rw [raise_req, req, hu, State.modPanel_req, written]
      ev := by rw [raise_ev, ev, hu, State.modPanel_ev, written]
      spindle := by rw [raise_spindle, spindle, hu, State.modPanel_spindle, written]
      tracker := by
        rw [tracker, hu, written]
        cases ref <;> rfl
      active := fun h => by
        subst h
        rw [tracker, hu, written]
        rfl
      closing := fun h => by
        subst h
        rw [tracker, hu, written]
        rfl }

end

/-! ### Retention (R59) -/

section
variable {s : State} {b : Nat} {p : Panel} {r : Board}

/-- What a retention writes before the board's tabs are skipped (R58, R59, R68). -/
def State.retaining (s : State) (b : Nat) (why : RetainReason) (r : Board) : State :=
  giveUpBin r (leavePickQueue b ((setBoardState .active b (.retained why) s).modPanel .active Panel.countRetained))

/-- What the marks of an event say of the heads (R80, R95). -/
def EventMarks.ofHeads (e : EventMarks) : Bool × PerHead Bool × PerHead (Option Nat) := (e.bothLeave, e.left, e.settled)

/-- What a retention leaves of the tables (R58 to R60), whether the picker is withdrawn or not. -/
structure Retained (b : Nat) (why : RetainReason) (p : Panel) (r : Board) (s t : State) : Prop where
  board : ∃ n ≤ r.openTabs, t.board .active b = some { r with state := .retained why, openTabs := n }
  others : ∀ j q, j ≠ b → s.board .active j = some q →
    ∃ n ≤ q.openTabs, t.board .active j = some { q with openTabs := n }
  active : t.tracker.active = some p.countRetained
  tracker : t.tracker = { s.tracker with
    active := t.tracker.active, half0 := t.tracker.half0, half1 := t.tracker.half1
    pickQueue := s.tracker.pickQueue.filter (· != b) }
  disp : ∃ w : State, w.disp = s.disp ∧ t.disp = (skipTabsOf b w).disp
  notices : t.notices = s.notices
  lines : t.lines = s.lines
  req : t.req = s.req
  ev : t.ev.ofHeads = s.ev.ofHeads
  spindle : t.spindle = s.spindle

theorem retaining_retained (why : RetainReason) (hp : s.tracker.active = some p) (hr : s.board .active b = some r) :
    Retained b why p r s (skipTabsOf b (s.retaining b why r)) := by
  obtain ⟨x, y, e⟩ := s.modBoard_tracker .active b fun r => { r with state := .retained why }
  have written : setBoardState .active b (.retained why) s =
      { s with tracker := { s.tracker with half0 := x, half1 := y } } := e
  have bare := skipTabsOf_bare (s.retaining b why r) b
  obtain ⟨-, -, notices', lines', req', ev', spindle'⟩ := State.blocks_of_bare bare
  obtain ⟨-, notices, lines, ev, spindle, req⟩ := giveUpBin_rest
    (leavePickQueue b ((setBoardState .active b (.retained why) s).modPanel .active Panel.countRetained)) r
  have tracker : (s.retaining b why r).tracker = { s.tracker with
      active := some p.countRetained, half0 := x, half1 := y, pickQueue := s.tracker.pickQueue.filter (· != b) } := by
    rw [State.retaining, (giveUpBin_frame _ r).1, written, ← Option.map_some, ← hp]
    rfl
  have boards (j : Nat) : (s.retaining b why r).board .active j =
      (setBoardState .active b (.retained why) s).board .active j :=
    (State.board_congr (giveUpBin_frame _ r).1 .active j).trans
      (State.modPanel_board _ .active .active (f := Panel.countRetained) (fun _ => rfl) j)
  have lowers := skipTabsOf_lowers b (s.retaining b why r)
  exact
    { board := lowers b { r with state := .retained why } (by rw [boards, setBoardState, State.modBoard_self s _ hr])
      others := fun j q hj hq => lowers j q (by
        rw [boards, setBoardState, State.modBoard_same, if_neg (Ne.symm hj), hq])
      active := by rw [State.tracker_of_bare bare, tracker]
      tracker := by
        have same := State.tracker_of_bare bare
        rw [tracker] at same
        rw [same]
      disp := ⟨s.retaining b why r, by
        rw [State.retaining, (giveUpBin_frame _ r).2.1, written]
        rfl, rfl⟩
      notices := notices'.trans (notices.trans (by rw [written]; rfl))
      lines := lines'.trans (lines.trans (by rw [written]; rfl))
      req := req'.trans (req.trans (by rw [written]; rfl))
      ev := congrArg EventMarks.ofHeads (ev'.trans (ev.trans (by rw [written]; rfl)))
      spindle := spindle'.trans (spindle.trans (by rw [written]; rfl)) }

theorem retaining_hand (s : State) (b : Nat) (why : RetainReason) (r : Board) :
    (skipTabsOf b (s.retaining b why r)).hand =
      { s.hand with binReserved := s.hand.binReserved - (if r.bad = true ∧ r.dest = some .bin then 1 else 0) } ∧
    (skipTabsOf b (s.retaining b why r)).ring = s.ring := by
  obtain ⟨x, y, e⟩ := s.modBoard_tracker .active b fun r => { r with state := .retained why }
  have written : setBoardState .active b (.retained why) s =
      { s with tracker := { s.tracker with half0 := x, half1 := y } } := e
  obtain ⟨hand, ring, -⟩ := State.blocks_of_bare (skipTabsOf_bare (s.retaining b why r) b)
  rw [hand, ring, State.retaining, giveUpBin_hand, (giveUpBin_rest _ r).1, written]
  exact ⟨rfl, rfl⟩

/-- The retention in full: the picker that serves the board is withdrawn (R59, R61). -/
theorem retainNow_eq (why : RetainReason) (hp : s.tracker.active = some p) (hr : s.board .active b = some r) :
    retainNow b why s =
      if r.state.atPicker && s.serves p.id b then withdraw (skipTabsOf b (s.retaining b why r))
      else skipTabsOf b (s.retaining b why r) := by
  have retained := retaining_retained why hp hr
  have id : (skipTabsOf b (s.retaining b why r)).activeId = p.id := by rw [State.activeId, retained.active]; rfl
  have serves : (skipTabsOf b (s.retaining b why r)).serves p.id b = s.serves p.id b := by
    simp only [State.serves, (retaining_hand s b why r).1]
  have whole : retainNow b why s =
      if r.state.atPicker && (skipTabsOf b (s.retaining b why r)).serves (skipTabsOf b (s.retaining b why r)).activeId b
      then withdraw (skipTabsOf b (s.retaining b why r)) else skipTabsOf b (s.retaining b why r) := by
    simp only [retainNow, hr]
    rfl
  rw [whole, id, serves]

@[simp] theorem releaseSlot_rest (d : Dest) (s : State) : (releaseSlot d s).ring = s.ring ∧
    (releaseSlot d s).notices = s.notices ∧ (releaseSlot d s).lines = s.lines ∧ (releaseSlot d s).req = s.req ∧
      (releaseSlot d s).spindle = s.spindle ∧ (releaseSlot d s).ev.ofHeads = s.ev.ofHeads := by
  unfold releaseSlot
  (repeat' split) <;> exact ⟨rfl, rfl, rfl, rfl, rfl, rfl⟩

@[simp] theorem writeRetract_rest (s : State) : (writeRetract s).notices = s.notices ∧ (writeRetract s).lines = s.lines ∧
    (writeRetract s).req = s.req ∧ (writeRetract s).spindle = s.spindle ∧ (writeRetract s).ev = s.ev := by
  unfold writeRetract
  split <;> exact ⟨rfl, rfl, rfl, rfl, rfl⟩

/-- Withdrawing the picker changes the handover unit and the picker's order alone (R128). -/
@[simp] theorem withdraw_rest (s : State) : (withdraw s).notices = s.notices ∧ (withdraw s).lines = s.lines ∧
    (withdraw s).req = s.req ∧ (withdraw s).spindle = s.spindle ∧ (withdraw s).ev.ofHeads = s.ev.ofHeads := by
  unfold withdraw
  dsimp only
  (repeat' split) <;> simp [writePicker]

/-- A retention with the picker away from the board withdraws nothing (R59, R61). -/
theorem retainNow_away (why : RetainReason) (hp : s.tracker.active = some p) (hr : s.board .active b = some r)
    (away : r.state.atPicker = false ∨ s.hand.service = none) :
    retainNow b why s = skipTabsOf b (s.retaining b why r) := by
  rw [retainNow_eq why hp hr, if_neg]
  rcases away with h | h
  · simp [h]
  · simp [State.serves, h]

/-- What a retention leaves of the tables is the same with the picker withdrawn (R59 to R61). -/
theorem retainNow_retained (why : RetainReason) (hp : s.tracker.active = some p) (hr : s.board .active b = some r) :
    Retained b why p r s (retainNow b why s) := by
  have retained := retaining_retained why hp hr
  rw [retainNow_eq why hp hr]
  split
  · set w := skipTabsOf b (s.retaining b why r)
    obtain ⟨tracker, disp, -⟩ := withdraw_frame w
    obtain ⟨notices, lines, req, spindle, ev⟩ := withdraw_rest w
    obtain ⟨before, same, now⟩ := retained.disp
    exact
      { board := by rw [State.board_congr tracker]; exact retained.board
        others := fun j q hj hq => by rw [State.board_congr tracker]; exact retained.others j q hj hq
        active := by rw [tracker, retained.active]
        tracker := by rw [tracker]; exact retained.tracker
        disp := ⟨before, same, disp.trans now⟩
        notices := notices.trans retained.notices
        lines := lines.trans retained.lines
        req := req.trans retained.req
        ev := ev.trans retained.ev
        spindle := spindle.trans retained.spindle }
  · exact retained

end

end Sys2Proof.Machine
end

section
/-! The close of an event (R48, R50, R85, R123, R129): what its tests, the waiting orders, the selection of a board and the arbiter
leave alone. -/

namespace Sys2Proof.Machine

/-! ### The arbiter (R85 to R89) -/

/-- What the arbiter's runs leave of a state: the boards but for a GRIPPED one, the tabs that stand in no list, the heads that are
not IDLE, and everything outside the dispatcher. -/
structure Arbitrated (s t : State) : Prop where
  tracker : t.tracker = { s.tracker with half0 := t.tracker.half0, half1 := t.tracker.half1 }
  boards : ∀ (h : Half) (j : Nat) (r : Board), (s.half h)[j]? = some r → r.state ≠ .gripped → (t.half h)[j]? = some r
  hand : t.hand = s.hand
  notices : t.notices = s.notices
  nodes : ∀ n, (∀ k : Head, n ≠ k.node) → t.node n = s.node n
  tabs : ∀ i, ¬ s.listed i → t.tab i = s.tab i
  ordered : ∀ i x, s.tab i = some x → x.state = .ordered →
    ∃ y, t.tab i = some y ∧ y.state = .ordered ∧ y.standing = x.standing
  listed : ∀ i, t.listed i → s.listed i
  heads : ∀ k, (s.head k).state ≠ .idle → (t.head k).bare = (s.head k).bare ∧ t.node k.node = s.node k.node

section
variable {s t u : State}

theorem Arbitrated.refl (s : State) : Arbitrated s s :=
  ⟨rfl, fun _ _ _ h _ => h, rfl, rfl, fun _ _ => rfl, fun _ _ => rfl, fun _ x hx hs => ⟨x, hx, hs, rfl⟩, fun _ h => h,
    fun _ _ => ⟨rfl, rfl⟩⟩

theorem Arbitrated.trans (a : Arbitrated s t) (b : Arbitrated t u) : Arbitrated s u where
  tracker := by rw [b.tracker, a.tracker]
  boards h j r hr hs := b.boards h j r (a.boards h j r hr hs) hs
  hand := b.hand.trans a.hand
  notices := b.notices.trans a.notices
  nodes n hn := (b.nodes n hn).trans (a.nodes n hn)
  tabs i hi := (b.tabs i fun h => hi (a.listed i h)).trans (a.tabs i hi)
  ordered i x hx hs := by
    obtain ⟨y, hy, state, standing⟩ := a.ordered i x hx hs
    obtain ⟨z, hz, state', standing'⟩ := b.ordered i y hy state
    exact ⟨z, hz, state', standing'.trans standing⟩
  listed i h := a.listed i (b.listed i h)
  heads k hk := by
    obtain ⟨head, node⟩ := a.heads k hk
    have busy : (t.head k).state ≠ .idle := fun h => hk ((congrArg HeadRec.state head).symm.trans h)
    obtain ⟨head', node'⟩ := b.heads k busy
    exact ⟨head'.trans head, node'.trans node⟩

/-- A change of a board leaves every other entry of the board table. -/
theorem State.modBoard_half_ne (s : State) {b j : Nat} {h : Half} (f : Board → Board)
    (other : ∀ p, s.tracker.active = some p → p.half = h → b ≠ j) :
    ((s.modBoard .active b f).half h)[j]? = (s.half h)[j]? := by
  unfold State.modBoard
  split
  · next p hp =>
    rw [State.setHalf_half]
    split
    · next hh =>
      subst hh
      exact List.getElem?_modify_ne _ _ (other p hp rfl)
    · rfl
  · rfl

/-- A GRIPPED board that becomes RELEASING (R64). -/
theorem releaseOrdered_arbitrated (x : Tab) (s : State) : Arbitrated s (releaseOrdered x s) := by
  unfold releaseOrdered
  split
  · next h =>
    obtain ⟨-, gripped⟩ := h
    obtain ⟨half0, half1, e⟩ := s.modBoard_tracker .active x.owner fun r => { r with state := .releasing }
    have written : setBoardState .active x.owner .releasing s =
        { s with tracker := { s.tracker with half0 := half0, half1 := half1 } } := e
    refine ⟨by rw [written], fun k j r hr hs => ?_, by rw [written], by rw [written], fun n _ => by rw [written]; rfl,
      fun i _ => by rw [written]; rfl, fun i y hy hs => ⟨y, by rw [written]; exact hy, hs, rfl⟩,
      fun i h => by rw [written] at h; exact h, fun m _ => by rw [written]; exact ⟨rfl, rfl⟩⟩
    refine (State.modBoard_half_ne s _ fun p hp hk e => hs ?_).trans hr
    subst hk e
    simpa [State.boardState, State.board_active hp, hr] using gripped
  · exact .refl s

/-- A CUT issued to an IDLE head for a tab in a list (R89). -/
theorem issueCut_arbitrated {k : Head} {i : Nat} (hk : (s.head k).state = .idle) (hi : s.listed i) :
    Arbitrated s (issueCut k i s) := by
  unfold issueCut
  split
  · exact .refl s
  next x hx =>
  refine Arbitrated.trans ?_ (releaseOrdered_arbitrated x _)
  refine ⟨rfl, fun h j r hr _ => by cases h <;> exact hr, rfl, rfl, fun n hn => ?_, fun j hj => ?_, fun j y hy hs => ?_,
    fun j h => ?_, fun m hm => ?_⟩
  · exact writeOrder_node_ne _ _ _ _ (hn k)
  · have other : i ≠ j := fun e => hj (e ▸ hi)
    refine (State.modTab_tab (leaveLists i s) i j _).trans ?_
    rw [if_neg other]
    rfl
  · have turn := State.modTab_tab (leaveLists i s) i j fun t => { t with state := .ordered, place := none, cutHead := some k }
    have left : (leaveLists i s).tab j = some y := hy
    rw [left] at turn
    by_cases e : i = j
    · rw [if_pos e] at turn
      exact ⟨{ y with state := .ordered, place := none, cutHead := some k }, turn, rfl, rfl⟩
    · rw [if_neg e] at turn
      exact ⟨y, turn, hs, rfl⟩
  · refine ((leaveLists_listed s i j).1 ?_).1
    cases k <;> exact h
  · have other : m ≠ k := fun e => hm (e ▸ hk)
    refine ⟨?_, writeOrder_node_ne _ _ _ _ fun e => other (by cases m <;> cases k <;> trivial)⟩
    cases m <;> cases k <;> first | rfl | exact absurd rfl other

/-- A PARK issued to an IDLE head (R96). -/
theorem issuePark_arbitrated {k : Head} (hk : (s.head k).state = .idle) : Arbitrated s (issuePark k s) := by
  refine ⟨rfl, fun h j r hr _ => by cases h <;> exact hr, rfl, rfl, fun n hn => writeOrder_node_ne _ _ _ _ (hn k),
    fun _ _ => rfl, fun _ y hy hs => ⟨y, hy, hs, rfl⟩, fun j h => ?_, fun m hm => ?_⟩
  · cases k <;> exact h
  · have other : m ≠ k := fun e => hm (e ▸ hk)
    refine ⟨?_, writeOrder_node_ne _ _ _ _ fun e => other (by cases m <;> cases k <;> trivial)⟩
    cases m <;> cases k <;> first | rfl | exact absurd rfl other

theorem listed_of_mem {k : Head} {i : Nat} (h : i ∈ (s.head k).queue) : s.listed i := by
  cases k
  · exact .inl h
  · exact .inr (.inl h)

theorem arbiter_arbitrated (k : Head) (s : State) : Arbitrated s (arbiter k s) := by
  unfold arbiter
  split
  · next h =>
    obtain ⟨idle, -⟩ := h
    split
    · next i hi => exact issueCut_arbitrated idle (listed_of_mem (mem_queue_of_firstPassing s hi))
    split
    · next otherIdle =>
      have follow : (s.head s.follow).state = .idle := by
        have : s.follow = k ∨ s.follow = k.other := by cases s.follow <;> cases k <;> simp [Head.other]
        rcases this with e | e <;> rw [e]
        · exact idle
        · exact otherIdle
      (repeat' split) <;> first
        | exact .refl s
        | exact issuePark_arbitrated otherIdle
        | exact issuePark_arbitrated follow
    · exact .refl s
  · exact .refl s

theorem runArbiter_arbitrated (s : State) : Arbitrated s (runArbiter s) :=
  ((arbiter_arbitrated _ s).trans (arbiter_arbitrated _ _)).trans ((arbiter_arbitrated _ _).trans (arbiter_arbitrated _ _))

end

/-! ### The tests (R48, R50) -/

section
variable (s : State)

@[simp] theorem testDone_rest : (testDone s).hand = s.hand ∧ (testDone s).ring = s.ring ∧
    (testDone s).tracker.pickQueue = s.tracker.pickQueue ∧ (testDone s).tracker.lastTally = s.tracker.lastTally ∧
      (testDone s).tracker.totalStacked = s.tracker.totalStacked ∧ (testDone s).lines = s.lines := by
  unfold testDone panelDone
  split <;> exact ⟨rfl, rfl, rfl, rfl, rfl, rfl⟩

theorem testDone_notice {k : Nat} (h : k ≠ 13) : (testDone s).notice k = s.notice k := by
  unfold testDone panelDone
  split
  · exact (raise_notice _ _ k).trans (if_neg (Ne.symm h))
  · rfl

/-- What the DONE test leaves of the active panel (R48). -/
theorem testDone_active : ∃ f : Panel → Panel, (∀ p, (f p).id = p.id ∧ (f p).tally = p.tally ∧ (f p).half = p.half) ∧
    (testDone s).tracker.active = s.tracker.active.map f := by
  unfold testDone panelDone
  split
  · exact ⟨fun p => { p with state := .done }, fun _ => ⟨rfl, rfl, rfl⟩, rfl⟩
  · exact ⟨id, fun _ => ⟨rfl, rfl, rfl⟩, by simp⟩

theorem testDone_half (h : Half) : (testDone s).half h = s.half h := by
  obtain ⟨-, -, -, -, half0, half1⟩ := testDone_frame s
  cases h
  · exact half0
  · exact half1

@[simp] theorem testClose_rest : (testClose s).hand = s.hand ∧ (testClose s).ring = s.ring ∧
    (testClose s).tracker.pickQueue = s.tracker.pickQueue ∧
      (testClose s).tracker.totalStacked = s.tracker.totalStacked ∧ (testClose s).lines = s.lines ∧
      (testClose s).disp.unassigned = s.disp.unassigned := by
  unfold testClose closePanel
  split
  · next c hc =>
    split
    · exact ⟨rfl, rfl, rfl, rfl, rfl, rfl⟩
    · simp only [State.panel, hc]
      cases c.half <;> exact ⟨rfl, rfl, rfl, rfl, rfl, rfl⟩
  · exact ⟨rfl, rfl, rfl, rfl, rfl, rfl⟩

/-- A CLOSING panel with a board IN_TRANSIT waits (R50). -/
theorem testClose_waits (h : s.tracker.closing = none ∨ s.inTransit .closing = true) : testClose s = s := by
  unfold testClose
  split
  · next c hc =>
    rcases h with h | h
    · simp [hc] at h
    · exact if_pos h
  · rfl

/-- A CLOSING panel with none left IN_TRANSIT closes with its tally (R50). -/
theorem testClose_closes {c : Panel} (hc : s.tracker.closing = some c) (h : s.inTransit .closing = false) :
    (testClose s).tracker.closing = none ∧ (testClose s).tracker.lastTally = some c.closed ∧
      ∀ k, (testClose s).notice k =
        if k = 14 then (s.notice 14).map (NoticeRec.raise (.panelClosed c.id c.tally)) else s.notice k := by
  have run : testClose s = closePanel .closing s := by simp [testClose, hc, h]
  have notice (k : Nat) : (closePanel .closing s).notice k = (raise (.panelClosed c.id c.tally) s).notice k := by
    simp only [closePanel, State.panel, hc]
    cases c.half <;> rfl
  refine ⟨?_, ?_, fun k => ?_⟩
  · rw [run]; simp only [closePanel, State.panel, hc]
  · rw [run]; simp only [closePanel, State.panel, hc]
  · rw [run, notice, raise_notice]
    by_cases hk : k = 14
    · subst hk; rfl
    · rw [if_neg hk]; exact if_neg (Ne.symm hk)

theorem testClose_notice {k : Nat} (h : k ≠ 14) : (testClose s).notice k = s.notice k := by
  cases hc : s.tracker.closing with
  | none => rw [testClose_waits s (.inl hc)]
  | some c =>
    cases ht : s.inTransit .closing with
    | true => rw [testClose_waits s (.inr ht)]
    | false => rw [(testClose_closes s hc ht).2.2, if_neg h]

/-- Whether a panel has a board IN_TRANSIT is read from its half. -/
theorem State.inTransit_closing {s t : State} {c : Panel} (hs : s.tracker.closing = some c) (ht : t.tracker.closing = some c)
    (h : t.half c.half = s.half c.half) : t.inTransit .closing = s.inTransit .closing := by
  simp only [State.inTransit, State.boards, State.panel, hs, ht, h]

end

/-! ### The waiting orders (R129) -/

section
variable (s : State)

/-- What the handover unit's waiting orders leave of its own tables. -/
def Handover.tables (x : Handover) : List Lane × Nat × Nat := (x.lanes, x.binFilled, x.binReserved)

@[simp] theorem writePicker_rest (k : PickerOrder) (o : Order) : (writePicker k o s).notices = s.notices ∧
    (writePicker k o s).hand.tables = s.hand.tables ∧ (writePicker k o s).hand.elevator = s.hand.elevator ∧
      (writePicker k o s).hand.service = s.hand.service ∧ (writePicker k o s).node .elevator = s.node .elevator :=
  ⟨rfl, rfl, rfl, rfl, rfl⟩

@[simp] theorem writeRetract_tables : (writeRetract s).hand.tables = s.hand.tables ∧
    (writeRetract s).hand.elevator = s.hand.elevator ∧ (writeRetract s).hand.service = s.hand.service ∧
      (writeRetract s).node .elevator = s.node .elevator := by
  unfold writeRetract
  split <;> exact ⟨rfl, rfl, rfl, rfl⟩

@[simp] theorem writeLift_tables : (writeLift s).notices = s.notices ∧ (writeLift s).hand.tables = s.hand.tables ∧
    (writeLift s).hand.elevator = s.hand.elevator ∧ (writeLift s).hand.service = s.hand.service ∧
      (writeLift s).node .elevator = s.node .elevator := by
  unfold writeLift
  (repeat' split) <;> exact ⟨rfl, rfl, rfl, rfl, rfl⟩

@[simp] theorem writePlace_tables : (writePlace s).notices = s.notices ∧ (writePlace s).hand.tables = s.hand.tables ∧
    (writePlace s).hand.elevator = s.hand.elevator ∧ (writePlace s).node .elevator = s.node .elevator := by
  unfold writePlace
  (repeat' split) <;> exact ⟨rfl, rfl, rfl, rfl⟩

@[simp] theorem writeReindex_tables : (writeReindex s).notices = s.notices ∧
    (writeReindex s).hand.tables = s.hand.tables := by
  unfold writeReindex
  (repeat' split) <;> exact ⟨rfl, rfl⟩

@[simp] theorem writeDue_tables : (writeDue s).notices = s.notices ∧ (writeDue s).hand.tables = s.hand.tables := by
  simp [writeDue]

/-- The INDEX of a service is not written again while the elevator is not IDLE (R146). -/
theorem writeReindex_waits {s : State} (h : s.hand.elevator.state ≠ .idle) : writeReindex s = s := by
  unfold writeReindex
  (repeat' split) <;> first
    | rfl
    | next due => exact absurd due.2.2 h

/-- A PLACE is not due for a service whose INDEX is WAITING: the service keeps its record (R136, R146). -/
theorem writePlace_service {s : State} {v : Service} (hv : s.hand.service = some v) (hi : v.index = .waiting) :
    (writePlace s).hand.service = some v := by
  unfold writePlace
  rw [hv]
  dsimp only
  split
  · split
    · exact hv
    · split
      · next ready =>
        cases hd : v.dest with
        | bin => simp [writePicker, hv, hd]
        | lane k i => simp [State.placeReady, hd, hi] at ready
      · exact hv
  · exact hv

/-- With the picker free of any service and of a RETRACT that waits, no order is due (R129). -/
theorem writeDue_idle {s : State} (hv : s.hand.service = none) (hr : s.hand.picker.retractDue = false) : writeDue s = s := by
  have retract : writeRetract s = s := if_neg (by simp [hr])
  rw [writeDue, retract]
  simp [writeReindex, writeLift, writePlace, hv]

end

/-! ### The selection of a board (R123 to R125) -/

/-- What a selection leaves of a state: the dispatcher, the boards outside the pick queue, the slots that are not EMPTY with
their lanes' counts, the notices but MAGAZINE_FULL, and the elevator while it is out of service. -/
structure Selected (s t : State) : Prop where
  tracker : t.tracker =
    { s.tracker with half0 := t.tracker.half0, half1 := t.tracker.half1, pickQueue := t.tracker.pickQueue }
  disp : t.disp = s.disp
  boards : ∀ (h : Half) (j : Nat) (r : Board), (s.half h)[j]? = some r → (∀ p, s.tracker.active = some p → p.half = h → j ∉ s.tracker.pickQueue) →
    (t.half h)[j]? = some r
  notice : ∀ k, k ≠ 10 → t.notice k = s.notice k
  lanes : ∀ (k : Nat) (l : Lane), s.lane k = some l → ∃ m, t.lane k = some m ∧ m.filled = l.filled ∧ m.suspect = l.suspect ∧
    ∀ (i : Nat) (st : SlotState), l.slots[i]? = some st → st ≠ .empty → m.slots[i]? = some st
  elevator : s.elevatorInService = false → t.hand.elevator = s.hand.elevator ∧ t.node .elevator = s.node .elevator

section
variable {s t : State}

theorem Selected.refl (s : State) : Selected s s :=
  ⟨rfl, rfl, fun _ _ _ h _ => h, fun _ _ => rfl, fun _ l hl => ⟨l, hl, rfl, rfl, fun _ _ h _ => h⟩, fun _ => ⟨rfl, rfl⟩⟩

/-- The slot that a lane's fill order takes is EMPTY (R124). -/
theorem Lane.nextSlot_empty {l : Lane} {i : Nat} (h : l.nextSlot = some i) : l.slots[i]? = some .empty := by
  have first {m : List SlotState} {j : Nat} (h : m.findIdx? (· == .empty) = some j) : m[j]? = some .empty := by
    obtain ⟨hj, e, -⟩ := List.findIdx?_eq_some_iff_getElem.1 h
    rw [List.getElem?_eq_getElem hj, beq_iff_eq.1 e]
  unfold Lane.nextSlot at h
  cases hf : l.fill with
  | bottomUp =>
    rw [hf] at h
    exact first h
  | topDown =>
    rw [hf] at h
    obtain ⟨j, hj, rfl⟩ := Option.map_eq_some_iff.1 h
    have found := first hj
    have inside : j < l.slots.length := by simpa using (List.getElem?_eq_some_iff.1 found).1
    rwa [List.getElem?_reverse inside] at found

/-- The lane of two with fewer EMPTY slots is one of the two. -/
theorem fewerEmpty_mem {L : List (Nat × Lane)} {best : Option (Nat × Lane)} {q : Nat × Lane}
    (h : L.foldl fewerEmpty best = some q) : best = some q ∨ q ∈ L := by
  induction L generalizing best with
  | nil => exact .inl h
  | cons a L ih =>
    rcases ih h with e | e
    · have : q = a ∨ best = some q := by
        unfold fewerEmpty at e
        cases best with
        | none => exact .inl (Option.some.inj e).symm
        | some b =>
          dsimp only at e
          split at e
          · exact .inl (Option.some.inj e).symm
          · exact .inr e
      rcases this with rfl | e
      · exact .inr List.mem_cons_self
      · exact .inl e
    · exact .inr (List.mem_cons_of_mem _ e)

/-- The destination of a good board is an EMPTY slot of a lane (R124). -/
theorem State.chooseSlot_empty {v : Nat} {d : Dest} (h : s.chooseSlot v = some d) :
    ∃ k i l, d = .lane k i ∧ s.lane k = some l ∧ l.slots[i]? = some .empty := by
  unfold State.chooseSlot at h
  dsimp only at h
  split at h
  · next q hq =>
    obtain ⟨i, hi, rfl⟩ := Option.map_eq_some_iff.1 h
    have mem := (fewerEmpty_mem hq).resolve_left nofun
    obtain ⟨x, hx, rfl⟩ := List.mem_map.1 (List.mem_of_mem_filter mem)
    have found := List.mk_mem_zipIdx_iff_getElem?.1 hx
    exact ⟨x.2, i, x.1, rfl, found, Lane.nextSlot_empty hi⟩
  · cases h

/-- A board of the pick queue taken out of it to GRIP_WAIT, with what the picker's and the elevator's orders did before. -/
theorem selected_of_taken {b : Nat} {f : Board → Board} (hb : b ∈ s.tracker.pickQueue) {u : State}
    (tracker : u.tracker = s.tracker) (disp : u.disp = s.disp) (notices : u.notices = s.notices)
    (lanes : ∀ (k : Nat) (l : Lane), s.lane k = some l → ∃ m, u.lane k = some m ∧ m.filled = l.filled ∧
      m.suspect = l.suspect ∧ ∀ (i : Nat) (st : SlotState), l.slots[i]? = some st → st ≠ .empty → m.slots[i]? = some st)
    (elevator : s.elevatorInService = false → u.hand.elevator = s.hand.elevator ∧ u.node .elevator = s.node .elevator) :
    Selected s ((leavePickQueue b u).modBoard .active b f) := by
  obtain ⟨x, y, e⟩ := (leavePickQueue b u).modBoard_tracker .active b f
  refine ⟨by rw [e]; simp [tracker], by rw [e]; exact disp, fun h j r hr out => ?_, fun k _ => ?_, fun k l hl => ?_,
    fun h => ?_⟩
  · have same (h : Half) : (leavePickQueue b u).half h = s.half h := by
      rw [State.half_eq, State.half_eq, leavePickQueue_tracker, tracker]
      cases h <;> rfl
    refine (State.modBoard_half_ne _ f fun p hp hh e => ?_).trans ((congrArg (·[j]?) (same h)).trans hr)
    exact out p (tracker ▸ hp) hh (e ▸ hb)
  · rw [e, State.notice, State.notice, ← notices]; rfl
  · rw [e]; exact lanes k l hl
  · rw [e]; exact elevator h

/-- A board of the pick queue selected for the bin, or for an EMPTY slot with the elevator in service (R125). -/
theorem selectBoard_selected {b : Nat} {d : Dest} (r : Board) (hb : b ∈ s.tracker.pickQueue)
    (hd : d = .bin ∨ (s.elevatorInService = true ∧ ∃ k i l, d = .lane k i ∧ s.lane k = some l ∧ l.slots[i]? = some .empty)) :
    Selected s (selectBoard b r d s) := by
  rcases hd with rfl | ⟨service, k, i, l, rfl, hl, empty⟩
  · exact selected_of_taken hb rfl rfl rfl (fun _ l hl => ⟨l, hl, rfl, rfl, fun _ _ h _ => h⟩) fun _ => ⟨rfl, rfl⟩
  · refine selected_of_taken hb rfl rfl rfl (fun j m hm => ?_) fun h => by simp [service] at h
    have reserved : (s.modLane k fun l => { l with slots := l.slots.set i .reserved }).lane j =
        if k = j then some { m with slots := m.slots.set i .reserved } else some m := by
      rw [State.lane, State.modLane_hand, List.getElem?_modify, ← State.lane, hm]
      split <;> rfl
    by_cases hk : k = j
    · subst hk
      rw [if_pos rfl] at reserved
      refine ⟨_, reserved, rfl, rfl, fun n st hst ne => ?_⟩
      have other : i ≠ n := fun e => by
        subst e
        cases hl.symm.trans hm
        exact ne (Option.some.inj (hst.symm.trans empty))
      rw [List.getElem?_set_ne other]
      exact hst
    · rw [if_neg hk] at reserved
      exact ⟨m, reserved, rfl, rfl, fun _ _ h _ => h⟩

theorem raise_magazineFull_selected (v : Nat) (s : State) : Selected s (raise (.magazineFull v) s) :=
  ⟨rfl, rfl, fun h j r hr _ => by cases h <;> exact hr, fun k hk => (raise_notice _ s k).trans (if_neg (Ne.symm hk)),
    fun _ l hl => ⟨l, hl, rfl, rfl, fun _ _ h _ => h⟩, fun _ => ⟨rfl, rfl⟩⟩

/-- A notice raised before a selection. -/
theorem Selected.after_raise {v : Nat} (h : Selected (raise (.magazineFull v) s) t) : Selected s t where
  tracker := h.tracker
  disp := h.disp
  boards k j r hr out := h.boards k j r (by cases k <;> exact hr) out
  notice k hk := (h.notice k hk).trans ((raise_magazineFull_selected v s).notice k hk)
  lanes := h.lanes
  elevator := h.elevator

theorem scanQueue_selected (l : List Nat) (h : ∀ b ∈ l, b ∈ s.tracker.pickQueue) : Selected s (scanQueue l s) := by
  induction l generalizing s with
  | nil => exact .refl s
  | cons b l ih =>
    have rest : ∀ j ∈ l, j ∈ s.tracker.pickQueue := fun j hj => h j (List.mem_cons_of_mem _ hj)
    have mem := h b List.mem_cons_self
    unfold scanQueue
    split
    · exact ih rest
    split
    · exact selectBoard_selected _ mem (.inl rfl)
    split
    · next service =>
      split
      · next d hd => exact selectBoard_selected _ mem (.inr ⟨service, State.chooseSlot_empty hd⟩)
      · exact (ih (s := raise _ s) rest).after_raise
    · exact ih rest

theorem selectIfAsked_selected (s : State) : Selected s (selectIfAsked s) := by
  unfold selectIfAsked trySelect
  (repeat' split) <;> first
    | exact .refl s
    | exact scanQueue_selected _ fun _ h => h

/-- No board is selected while the picker serves one or is not IDLE (R123). -/
theorem selectIfAsked_busy (h : s.hand.service.isSome = true ∨ s.hand.picker.state ≠ .idle) : selectIfAsked s = s := by
  have busy : s.canSelect = false := by
    rcases h with h | h
    · obtain ⟨v, hv⟩ := Option.isSome_iff_exists.1 h
      simp [State.canSelect, hv]
    · simp [State.canSelect, h]
  unfold selectIfAsked trySelect
  simp [busy]

end

end Sys2Proof.Machine
end

section
/-! The picker's fault (R66, R121, R145): what it does to the service and to the board it served, with or without the close of the
event behind it. -/

namespace Sys2Proof.Machine

/-! ### The close of an event with the picker out -/

/-- What follows the picker's fault in its event leaves all that the fault settled: the boards but for a GRIPPED one, the tabs in
no list, the heads that are not IDLE, and a closing panel until it closes. -/
structure Aftermath (s t : State) : Prop where
  hand : t.hand = s.hand
  notice : ∀ k, k ≠ 13 → k ≠ 14 → t.notice k = s.notice k
  picker : t.node .picker = s.node .picker
  queue : t.tracker.pickQueue = s.tracker.pickQueue
  active : t.tracker.active.map (fun q => (q.id, q.tally)) = s.tracker.active.map fun q => (q.id, q.tally)
  board : ∀ p, s.tracker.active = some p → (∀ c, s.tracker.closing = some c → c.half ≠ p.half) →
    ∀ j r, s.board .active j = some r → r.state ≠ .gripped → t.board .active j = some r
  closing : ∀ c, s.tracker.closing = some c →
    (t.tracker.closing = some c ∧ ∀ j r, s.board .closing j = some r → r.state ≠ .gripped → t.board .closing j = some r) ∨
      (t.tracker.closing = none ∧ t.tracker.lastTally = some c.closed)
  tabs : ∀ i, ¬ s.listed i → t.tab i = s.tab i
  ordered : ∀ i x, s.tab i = some x → x.state = .ordered →
    ∃ y, t.tab i = some y ∧ y.state = .ordered ∧ y.standing = x.standing
  listed : ∀ i, t.listed i → s.listed i
  heads : ∀ k, (s.head k).state ≠ .idle → (t.head k).bare = (s.head k).bare ∧ t.node k.node = s.node k.node

section
variable {s : State}

theorem Aftermath.refl (s : State) : Aftermath s s :=
  ⟨rfl, fun _ _ _ => rfl, rfl, rfl, rfl, fun _ _ _ _ _ h _ => h, fun _ h => .inl ⟨h, fun _ _ h _ => h⟩, fun _ _ => rfl,
    fun _ x hx hs => ⟨x, hx, hs, rfl⟩, fun _ h => h, fun _ _ => ⟨rfl, rfl⟩⟩

/-- With the picker out of service and free, an event closes with the tests and the arbiter alone. -/
theorem settle_picker_out (hs : s.hand.picker.state ≠ .idle) (hr : s.hand.picker.retractDue = false)
    (hv : s.hand.service = none) : settle s = clearMarks (runArbiter (testClose (testDone s))) := by
  have hand : (testClose (testDone s)).hand = s.hand := by simp
  rw [settle, writeDue_idle (by rw [hand, hv]) (by rw [hand, hr]), selectIfAsked_busy (.inr (by rwa [hand]))]

theorem settle_aftermath (hs : s.hand.picker.state ≠ .idle) (hr : s.hand.picker.retractDue = false)
    (hv : s.hand.service = none) : Aftermath s (settle s) := by
  rw [settle_picker_out hs hr hv]
  set w := testClose (testDone s) with hw
  have arb := runArbiter_arbitrated w
  have ring : w.ring = s.ring := by simp [hw]
  have heads : w.disp.heads = s.disp.heads := by simp [hw]
  have listed (i : Nat) : w.listed i ↔ s.listed i := State.listed_congr heads (by simp [hw]) i
  have tab (i : Nat) : w.tab i = s.tab i := by simp [State.tab, hw]
  obtain ⟨f, hf, done⟩ := testDone_active s
  have active : w.tracker.active = s.tracker.active.map f := by rw [hw, (testClose_frame _).1, done]
  have closing : (testDone s).tracker.closing = s.tracker.closing := (testDone_frame s).1
  have tracker : (clearMarks (runArbiter w)).tracker = (runArbiter w).tracker := rfl
  have marks (h : Half) : (clearMarks (runArbiter w)).half h = (runArbiter w).half h := by cases h <;> rfl
  exact
    { hand := arb.hand.trans (by simp [hw])
      notice := fun k h13 h14 => by
        have e : (clearMarks (runArbiter w)).notice k = w.notice k := by
          rw [State.notice, clearMarks_notices, arb.notices, State.notice]
        rw [e, hw, testClose_notice _ h14, testDone_notice _ h13]
      picker := (arb.nodes .picker fun k => by cases k <;> nofun).trans (by simp only [State.node, ring])
      queue := by rw [tracker, arb.tracker]; simp [hw]
      active := by
        rw [tracker, arb.tracker]
        simp only [active, Option.map_map]
        exact congrArg (fun g => s.tracker.active.map g) (funext fun p => by simp [hf])
      board := fun p hp apart j r hr' state => by
        have half : w.half p.half = s.half p.half := by
          rw [State.half_eq, hw, testClose_half _ _ (by rw [closing]; exact apart), ← State.half_eq, testDone_half]
        have now : (clearMarks (runArbiter w)).tracker.active = some (f p) := by
          rw [tracker, arb.tracker]
          simp [active, hp]
        rw [State.board_active now, marks, (hf p).2.2]
        refine arb.boards p.half j r ?_ state
        rw [half, ← State.board_active hp, hr']
      closing := fun c hc => by
        cases ht : (testDone s).inTransit .closing with
        | true =>
          have stays : w = testDone s := testClose_waits _ (.inr ht)
          have now : (clearMarks (runArbiter w)).tracker.closing = some c := by
            rw [tracker, arb.tracker]
            simp [stays, hc]
          refine .inl ⟨now, fun j r hr' state => ?_⟩
          rw [State.board_closing now, marks]
          refine arb.boards c.half j r ?_ state
          rw [stays, testDone_half, ← State.board_closing hc, hr']
        | false =>
          obtain ⟨gone, last, -⟩ := testClose_closes (testDone s) (closing.trans hc) ht
          refine .inr ⟨?_, ?_⟩
          · rw [tracker, arb.tracker]; exact gone
          · rw [tracker, arb.tracker]; exact last
      tabs := fun i hi => (arb.tabs i fun h => hi ((listed i).1 h)).trans (tab i)
      ordered := fun i x hx state => arb.ordered i x ((tab i).trans hx) state
      listed := fun i h => (listed i).1 (arb.listed i h)
      heads := fun k hk => by
        have head : w.head k = s.head k := by simp only [State.head, heads]
        obtain ⟨same, node⟩ := arb.heads k (by rwa [head])
        exact ⟨same.trans (congrArg HeadRec.bare head), node.trans (by simp only [State.node, ring])⟩ }

end

/-! ### What a fault leaves beside the board -/

/-- What the fault of a picker that serves none leaves beside the boards, the tabs and the heads. -/
structure Calm (s t : State) : Prop where
  hand : ∃ n, t.hand = { s.hand with binReserved := n }
  notice : ∀ k, k ≠ 15 → t.notice k = s.notice k
  picker : t.node .picker = s.node .picker

section
variable {s t u : State}

theorem Calm.refl (s : State) : Calm s s := ⟨⟨_, rfl⟩, fun _ _ => rfl, rfl⟩

theorem Calm.trans (a : Calm s t) (b : Calm t u) : Calm s u := by
  obtain ⟨n, hn⟩ := a.hand
  obtain ⟨m, hm⟩ := b.hand
  exact ⟨⟨m, by rw [hm, hn]⟩, fun k hk => (b.notice k hk).trans (a.notice k hk), b.picker.trans a.picker⟩

theorem Calm.of_same (hand : t.hand = s.hand) (notices : t.notices = s.notices) (picker : t.node .picker = s.node .picker) :
    Calm s t := ⟨⟨s.hand.binReserved, hand⟩, fun k _ => by rw [State.notice, State.notice, notices], picker⟩

/-- A board that is there belongs to an active panel. -/
theorem State.active_of_board {b : Nat} {r : Board} (hr : s.board .active b = some r) : ∃ p, s.tracker.active = some p := by
  cases hp : s.tracker.active with
  | some p => exact ⟨p, rfl⟩
  | none => simp [State.board, State.boards, State.panel, hp] at hr

theorem retainNow_calm (b : Nat) (why : RetainReason) (hv : s.hand.service = none) : Calm s (retainNow b why s) := by
  cases hr : s.board .active b with
  | none => rw [retainNow, hr]; exact .refl s
  | some r =>
    obtain ⟨p, hp⟩ := State.active_of_board hr
    have retained := retaining_retained why hp hr
    obtain ⟨hand, ring⟩ := retaining_hand s b why r
    rw [retainNow_away why hp hr (.inr hv)]
    exact ⟨⟨_, hand⟩, fun k _ => by rw [State.notice, State.notice, retained.notices], by simp only [State.node, ring]⟩

theorem loseBoard_calm (ref : PanelRef) (b : Nat) (why : LostReason) (s : State) : Calm s (loseBoard ref b why s) := by
  unfold loseBoard
  split
  · next p r hp hr =>
    split
    · exact .refl s
    · next live =>
      have lost := loseBoard_lost why hp hr (by simpa using live)
      rw [loseBoard_eq why hp hr (by simpa using live)] at lost
      exact ⟨⟨_, lost.hand⟩, fun k hk => (lost.notice k).trans (if_neg hk), by simp only [State.node, lost.ring]⟩
  · exact .refl s

/-- A stop request changes the head it stops and its order (R91). -/
theorem stopHead_eq (h : Head) (cause : StopCause) (s : State) : ∃ r n, stopHead h cause s = (s.setHead h r).setNode h.node n ∧
    r.queue = (s.head h).queue := by
  unfold stopHead
  split
  · exact ⟨{ s.head h with state := .stopping, cause := some cause }, _, rfl, rfl⟩
  · refine ⟨s.head h, s.node h.node, ?_, rfl⟩
    cases h <;> rfl

theorem stopHead_rest (h : Head) (cause : StopCause) (s : State) : (stopHead h cause s).tracker = s.tracker ∧
    (stopHead h cause s).hand = s.hand ∧ (stopHead h cause s).notices = s.notices ∧
      (stopHead h cause s).node .picker = s.node .picker ∧ (stopHead h cause s).disp.tabs = s.disp.tabs ∧
      (stopHead h cause s).disp.unassigned = s.disp.unassigned ∧
      ∀ k, ((stopHead h cause s).head k).queue = (s.head k).queue := by
  obtain ⟨r, n, e, queue⟩ := stopHead_eq h cause s
  rw [e]
  cases h <;> refine ⟨rfl, rfl, rfl, rfl, rfl, rfl, fun k => ?_⟩ <;> cases k <;> first | rfl | exact queue

/-- What a stop request for a tab's cut leaves (R66, R83). -/
theorem stopTab_rest (i : Nat) (cause : StopCause) (s : State) : (stopTab i cause s).tracker = s.tracker ∧
    (stopTab i cause s).hand = s.hand ∧ (stopTab i cause s).notices = s.notices ∧
      (stopTab i cause s).node .picker = s.node .picker ∧ (∀ j, (stopTab i cause s).tab j = s.tab j) ∧
      ∀ j, (stopTab i cause s).listed j ↔ s.listed j := by
  have one (h : Head) : (stopHead h cause s).tracker = s.tracker ∧ (stopHead h cause s).hand = s.hand ∧
      (stopHead h cause s).notices = s.notices ∧ (stopHead h cause s).node .picker = s.node .picker ∧
      (∀ j, (stopHead h cause s).tab j = s.tab j) ∧ ∀ j, (stopHead h cause s).listed j ↔ s.listed j := by
    obtain ⟨tracker, hand, notices, picker, tabs, unassigned, queue⟩ := stopHead_rest h cause s
    exact ⟨tracker, hand, notices, picker, fun j => by rw [State.tab, State.tab, tabs],
      fun j => by simp only [State.listed, queue, unassigned]⟩
  unfold stopTab
  (repeat' split) <;> first
    | exact one _
    | exact ⟨rfl, rfl, rfl, rfl, fun _ => rfl, fun _ => .rfl⟩

/-- A CUTTING head whose tab is named is stopped; head A is asked first (R66, R83, R91). -/
theorem stopTab_stops {i : Nat} {h : Head} (cause : StopCause) (tab : (s.head h).tab = some i)
    (cutting : (s.head h).state = .cutting) (first : h = .b → (s.head .a).tab ≠ some i) :
    ((stopTab i cause s).head h).state = .stopping ∧ ((stopTab i cause s).head h).cause = some cause ∧
      ((stopTab i cause s).node h.node).order = .stop := by
  have stops : stopTab i cause s = stopHead h cause s := by
    unfold stopTab
    cases h with
    | a => rw [if_pos tab]
    | b => rw [if_neg (first rfl), if_pos tab]
  have run : stopHead h cause s =
      (writeOrder h.node .stop s).modHead h fun r => { r with state := .stopping, cause := some cause } := if_pos cutting
  rw [stops, run]
  cases h <;> exact ⟨rfl, rfl, rfl⟩

theorem stopTab_calm (i : Nat) (cause : StopCause) (s : State) : Calm s (stopTab i cause s) := by
  obtain ⟨-, hand, notices, picker, -⟩ := stopTab_rest i cause s
  exact .of_same hand notices picker

/-- What a revocation leaves (R83). -/
theorem revoke_rest (i : Nat) (s : State) : (revoke i s).tracker = s.tracker ∧ (revoke i s).hand = s.hand ∧
    (revoke i s).notices = s.notices ∧ (revoke i s).node .picker = s.node .picker := by
  unfold revoke
  split
  · split
    · exact ⟨rfl, rfl, rfl, rfl⟩
    · obtain ⟨tracker, hand, notices, picker, -⟩ := stopTab_rest i .hold s
      exact ⟨tracker, hand, notices, picker⟩
    · exact ⟨rfl, rfl, rfl, rfl⟩
  · exact ⟨rfl, rfl, rfl, rfl⟩

/-- A QUEUED release tab that is revoked is HELD and stands in no list (R83). -/
theorem revoke_queued {i : Nat} {x : Tab} (hx : s.tab i = some x) (hs : x.state = .queued) :
    (revoke i s).tab i = some { x with state := .held, place := none } ∧ ¬ (revoke i s).listed i := by
  have run : revoke i s = (leaveLists i s).modTab i fun t => { t with state := .held, place := none } := by
    simp [revoke, hx, hs]
  have left : (leaveLists i s).tab i = some x := hx
  rw [run]
  refine ⟨by rw [State.modTab_tab, if_pos rfl, left]; rfl, fun h => ((leaveLists_listed s i i).1 h).2 rfl⟩

/-- A HELD release tab has no grant to revoke (R83). -/
theorem revoke_held {i : Nat} {x : Tab} (hx : s.tab i = some x) (hs : x.state = .held) : revoke i s = s := by
  simp [revoke, hx, hs]

theorem revoke_calm (i : Nat) (s : State) : Calm s (revoke i s) := by
  obtain ⟨-, hand, notices, picker⟩ := revoke_rest i s
  exact .of_same hand notices picker

end

/-! ### A board that returns to READY (R66) -/

/-- A board back in READY, at the front of the pick queue where `front` says so. -/
structure BackReady (b : Nat) (r : Board) (front : Bool) (s t : State) : Prop where
  board : t.board .active b = some { r with state := .ready, dest := if r.bad then r.dest else none }
  queue : t.tracker.pickQueue = if front then b :: s.tracker.pickQueue else s.tracker.pickQueue
  active : t.tracker.active = s.tracker.active
  closing : t.tracker.closing = s.tracker.closing
  hand : t.hand = s.hand
  disp : t.disp = s.disp
  ring : t.ring = s.ring
  notices : t.notices = s.notices

section
variable {s : State} {b : Nat} {r : Board}

theorem returnReady_back (front : Bool) (hm : s.abortMarked = false) (hr : s.board .active b = some r) :
    BackReady b r front s (returnReady b front s) := by
  set f : Board → Board := fun r => { r with state := .ready, dest := if r.bad then r.dest else none } with hf
  obtain ⟨x, y, e⟩ := s.modBoard_tracker .active b f
  have board := State.modBoard_self s f hr
  have run : returnReady b front s = if front then joinPickFront b (s.modBoard .active b f) else s.modBoard .active b f := by
    simp [returnReady, hm, hf]
  rw [run]
  cases front with
  | true =>
    have joined : (joinPickFront b (s.modBoard .active b f)).board .active b = (s.modBoard .active b f).board .active b := rfl
    refine ⟨joined.trans board, ?_, ?_, ?_, ?_, ?_, ?_, ?_⟩ <;> rw [if_pos rfl, e] <;> rfl
  | false => refine ⟨board, ?_, ?_, ?_, ?_, ?_, ?_, ?_⟩ <;> rw [e] <;> rfl

theorem returnReady_aborted (front : Bool) (hm : s.abortMarked = true) : returnReady b front s = retainNow b .aborted s :=
  if_pos hm

theorem returnReady_calm (b : Nat) (front : Bool) (hv : s.hand.service = none) : Calm s (returnReady b front s) := by
  cases hm : s.abortMarked with
  | true => rw [returnReady_aborted front hm]; exact retainNow_calm b .aborted hv
  | false =>
    unfold returnReady
    rw [hm, if_neg Bool.false_ne_true]
    obtain ⟨x, y, e⟩ := s.modBoard_tracker .active b fun r => { r with state := .ready, dest := if r.bad then r.dest else none }
    dsimp only
    rw [e]
    split <;> exact .of_same rfl rfl rfl

theorem faultBoard_calm (ref : PanelRef) (b : Nat) (hv : s.hand.service = none) : Calm s (faultBoard ref b s) := by
  have free {w : State} (h : Calm s w) : w.hand.service = none := by
    obtain ⟨n, hn⟩ := h.hand
    rw [hn]
    exact hv
  unfold faultBoard
  split
  · exact .refl s
  next r _ =>
  have revoked := revoke_calm r.releaseTab s
  have stopped := stopTab_calm r.releaseTab .hold s
  split
  · exact revoked.trans (returnReady_calm b true (free revoked))
  · exact revoked.trans (returnReady_calm b true (free revoked))
  · have back := stopped.trans (returnReady_calm b (!s.releaseOut r.releaseTab) (free stopped))
    dsimp only
    split
    · exact back
    · exact back.trans (.of_same rfl rfl rfl)
  · exact loseBoard_calm ref b .pickerFault s
  · exact loseBoard_calm ref b .pickerFault s
  · exact .refl s

end

/-! ### The service freed (R145) -/

/-- The state once the picker's fault has freed the service, before its board is settled (R145). -/
def State.serviceFreed (s : State) (why : FaultReason) (v : Service) : State :=
  let s := setLatch .picker why s
  let s := s.modPicker fun p => { p with state := .fault, reason := some why, order := none, timer := none, retractDue := false }
  let s := raise (.pickerFault why (some (v.panel, v.board))) s
  let s := releaseContingency (if v.window.isSome then suspectSlot v.dest s else releaseSlot v.dest s)
  { s with hand := { s.hand with service := none } }

section
variable {s : State} {v : Service}

theorem pickerFault_serving (why : FaultReason) (hs : s.hand.picker.state = .serving) (hv : s.hand.service = some v) :
    pickerFault why s =
      if v.torn then s.serviceFreed why v
      else match (s.serviceFreed why v).panelRef v.panel with
        | some ref => faultBoard ref v.board (s.serviceFreed why v)
        | none => s.serviceFreed why v := by
  have inService : ¬ (s.hand.picker.state = .offline ∨ s.hand.picker.state = .fault) := by simp [hs]
  have service : (setLatch .picker why s).hand.service = some v := hv
  simp only [pickerFault, if_neg inService, State.modPicker_hand, service, State.serviceFreed] <;> rfl

end

end Sys2Proof.Machine
end

section
/-! Slots released, suspected and filled (R126, R137), and the picker's fault with the service it settles (R121, R145, R66). -/

namespace Sys2Proof.Machine

/-! ### The destination's slot -/

section
variable (s : State)

theorem State.modLane_lane {k : Nat} {l : Lane} (f : Lane → Lane) (h : s.lane k = some l) :
    (s.modLane k f).lane k = some (f l) := by
  have found : s.hand.lanes[k]? = some l := h
  simp [State.lane, found]

/-- A RESERVED slot shows its lane. -/
theorem State.lane_of_slot {s : State} {k i : Nat} {st : SlotState} (h : s.slot k i = some st) :
    ∃ l, s.lane k = some l ∧ l.slots[i]? = some st := Option.bind_eq_some_iff.1 h

theorem Lane.testFull_counts (l : Lane) : l.testFull.filled = l.filled ∧ l.testFull.suspect = l.suspect := by
  unfold Lane.testFull
  split <;> exact ⟨rfl, rfl⟩

/-- Releasing a slot changes the lanes, and asks for a selection. -/
theorem releaseSlot_eq (d : Dest) : ∃ lanes e, releaseSlot d s = { s with hand := { s.hand with lanes := lanes }, ev := e } := by
  unfold releaseSlot
  (repeat' split) <;> exact ⟨_, _, rfl⟩

theorem suspectSlot_eq (d : Dest) : ∃ lanes, suspectSlot d s = { s with hand := { s.hand with lanes := lanes } } := by
  unfold suspectSlot
  (repeat' split) <;> exact ⟨_, rfl⟩

theorem fillSlot_eq (d : Dest) : ∃ lanes, fillSlot d s = { s with hand := { s.hand with lanes := lanes } } := by
  unfold fillSlot
  (repeat' split) <;> exact ⟨_, rfl⟩

variable {s} {k i : Nat} {l : Lane}

theorem releaseSlot_lane (hl : s.lane k = some l) (hi : l.slots[i]? = some .reserved) :
    (releaseSlot (.lane k i) s).lane k = some { l with slots := l.slots.set i .empty } := by
  have reserved : s.slot k i = some .reserved := by simp [State.slot, hl, hi]
  have run : releaseSlot (.lane k i) s =
      askSelect (s.modLane k fun l => { l with slots := l.slots.set i .empty }) := if_pos reserved
  rw [run]
  exact s.modLane_lane _ hl

theorem suspectSlot_lane (hl : s.lane k = some l) (hi : l.slots[i]? = some .reserved) :
    ∃ m, (suspectSlot (.lane k i) s).lane k = some m ∧ m.slots = l.slots.set i .suspect ∧ m.filled = l.filled ∧
      m.suspect = l.suspect + 1 := by
  have reserved : s.slot k i = some .reserved := by simp [State.slot, hl, hi]
  have run : suspectSlot (.lane k i) s =
      s.modLane k fun l => ({ l with slots := l.slots.set i .suspect, suspect := l.suspect + 1 } : Lane).testFull := if_pos reserved
  rw [run]
  exact ⟨_, s.modLane_lane _ hl, Lane.testFull_slots _, Lane.testFull_counts _⟩

theorem fillSlot_lane (hl : s.lane k = some l) (hi : l.slots[i]? = some .reserved) :
    ∃ m, (fillSlot (.lane k i) s).lane k = some m ∧ m.slots = l.slots.set i .filled ∧ m.filled = l.filled + 1 ∧
      m.suspect = l.suspect := by
  have reserved : s.slot k i = some .reserved := by simp [State.slot, hl, hi]
  have run : fillSlot (.lane k i) s =
      s.modLane k fun l => ({ l with slots := l.slots.set i .filled, filled := l.filled + 1 } : Lane).testFull := if_pos reserved
  rw [run]
  exact ⟨_, s.modLane_lane _ hl, Lane.testFull_slots _, Lane.testFull_counts _⟩

/-- A slot written in a lane that has it. -/
theorem slot_of_set {t : State} {m : Lane} {was now : SlotState} (hm : t.lane k = some m)
    (set : m.slots = l.slots.set i now) (hi : l.slots[i]? = some was) : t.slot k i = some now := by
  have inside := (List.getElem?_eq_some_iff.1 hi).1
  simp [State.slot, hm, set, inside]

end

/-! ### The service freed by the fault -/

/-- What the fault of a picker leaves of the service it served, its board set aside (R121, R145). -/
structure Freed (why : FaultReason) (v : Service) (s t : State) : Prop where
  tracker : t.tracker = s.tracker
  disp : t.disp = s.disp
  picker : t.hand.picker = { state := .fault, reason := some why, order := none, timer := none, retractDue := false }
  service : t.hand.service = none
  filled : t.hand.binFilled = s.hand.binFilled
  reserved : t.hand.binReserved = s.hand.binReserved - (if v.contingency then 1 else 0)
  slot : ∀ k i, v.dest = .lane k i → s.slot k i = some .reserved →
    t.slot k i = some (if v.window.isSome then .suspect else .empty) ∧
      (t.lane k).map (fun l => (l.filled, l.suspect)) =
        (s.lane k).map fun l => (l.filled, if v.window.isSome then l.suspect + 1 else l.suspect)
  notice : ∀ k, t.notice k =
    if k = 3 then (s.notice 3).map (NoticeRec.raise (.pickerFault why (some (v.panel, v.board)))) else s.notice k
  latch : (t.node .picker).latch = s.latchAfter .picker why
  heads : ∀ h : Head, t.node h.node = s.node h.node

section
variable {s t : State} {v : Service} {why : FaultReason}

/-- The latch of the node that faults (R172). -/
theorem latched_latch (n : Node) (why : FaultReason) (s : State) :
    ((s.node n).latched why).latch = s.latchAfter n why := by
  unfold NodeRec.latched State.latchAfter
  cases h : (s.node n).latch with
  | none => rfl
  | some w => exact h

theorem raise_notice_once (d : Detail) (s : State) (k : Nat) :
    (raise d s).notice k = if k = d.cls then (s.notice d.cls).map (NoticeRec.raise d) else s.notice k := by
  rw [raise_notice]
  by_cases h : k = d.cls
  · subst h; simp
  · rw [if_neg h, if_neg (Ne.symm h)]

theorem serviceFreed_freed (why : FaultReason) (hv : s.hand.service = some v) : Freed why v s (s.serviceFreed why v) := by
  set u := raise (.pickerFault why (some (v.panel, v.board))) ((setLatch .picker why s).modPicker fun p =>
    { p with state := .fault, reason := some why, order := none, timer := none, retractDue := false }) with hu
  set w := if v.window.isSome then suspectSlot v.dest u else releaseSlot v.dest u with hw
  obtain ⟨lanes, e, hlanes⟩ : ∃ lanes e, w = { u with hand := { u.hand with lanes := lanes }, ev := e } := by
    rw [hw]
    split
    · obtain ⟨lanes, e⟩ := suspectSlot_eq u v.dest
      exact ⟨lanes, _, e⟩
    · exact releaseSlot_eq u v.dest
  have service : w.hand.service = some v := by rw [hlanes]; exact hv
  have hand := releaseContingency_hand w service
  obtain ⟨ring, notices, -⟩ := releaseContingency_rest w
  have ring : (releaseContingency w).ring = u.ring := ring.trans (by rw [hlanes])
  have notices : (releaseContingency w).notices = u.notices := notices.trans (by rw [hlanes])
  have run : s.serviceFreed why v = { releaseContingency w with
      hand := { (releaseContingency w).hand with service := none } } := rfl
  have head (h : Head) : u.node h.node = s.node h.node := by cases h <;> rfl
  rw [run]
  exact
    { tracker := (releaseContingency_frame w).1.trans (by rw [hlanes]; rfl)
      disp := (releaseContingency_frame w).2.1.trans (by rw [hlanes]; rfl)
      picker := by rw [hand, hlanes]; rfl
      service := rfl
      filled := by rw [hand, hlanes]; rfl
      reserved := by rw [hand, hlanes]; rfl
      slot := fun k i hd reserved => by
        obtain ⟨l, hl, hi⟩ := State.lane_of_slot reserved
        have lane : u.lane k = some l := hl
        have same : ({ releaseContingency w with
            hand := { (releaseContingency w).hand with service := none } } : State).lane k = w.lane k := by
          simp only [State.lane, hand]
        have slot : ∃ m, w.lane k = some m ∧ m.slots = l.slots.set i (if v.window.isSome then .suspect else .empty) ∧
            m.filled = l.filled ∧ m.suspect = if v.window.isSome then l.suspect + 1 else l.suspect := by
          rw [hw, hd]
          split
          · exact suspectSlot_lane lane hi
          · exact ⟨_, releaseSlot_lane lane hi, rfl, rfl, rfl⟩
        obtain ⟨m, hm, slots, filled, suspect⟩ := slot
        refine ⟨slot_of_set (same.trans hm) slots hi, ?_⟩
        rw [same, hm, hl, Option.map_some, Option.map_some, filled, suspect]
      notice := fun k => by
        have here : u.notice k = _ := raise_notice_once _ _ k
        refine Eq.trans (?_ : _ = u.notice k) here
        simp only [State.notice, notices]
      latch := by
        refine Eq.trans ?_ (latched_latch .picker why s)
        simp only [State.node, ring]
        rfl
      heads := fun h => by
        rw [← head h]
        cases h <;> simp only [State.node, ring, Head.node] }

theorem pickerFault_calm (hs : s.hand.picker.state = .serving) (hv : s.hand.service = some v) :
    Calm (s.serviceFreed why v) (pickerFault why s) := by
  have free := (serviceFreed_freed why hv).service
  rw [pickerFault_serving why hs hv]
  split
  · exact .refl _
  split
  · exact faultBoard_calm _ _ free
  · exact .refl _

/-- The fault of a picker that serves none (R121). -/
theorem pickerFault_idle (why : FaultReason) (hs : s.hand.picker.state = .serving) (hv : s.hand.service = none) :
    pickerFault why s = raise (.pickerFault why none) ((setLatch .picker why s).modPicker fun p =>
      { p with state := .fault, reason := some why, order := none, timer := none, retractDue := false }) := by
  simp [pickerFault, hs, hv]

/-- The picker that faults holds no order and no service, and waits for none (R121). -/
theorem pickerFault_out (hs : s.hand.picker.state = .serving) :
    (pickerFault why s).hand.picker =
        { state := .fault, reason := some why, order := none, timer := none, retractDue := false } ∧
      (pickerFault why s).hand.service = none := by
  cases hv : s.hand.service with
  | none =>
    rw [pickerFault_idle why hs hv]
    exact ⟨rfl, hv⟩
  | some v =>
    obtain ⟨n, hand⟩ := (pickerFault_calm (why := why) hs hv).hand
    have freed := serviceFreed_freed why hv
    rw [hand]
    exact ⟨freed.picker, freed.service⟩

/-- The picker's fault as the obligation reads it (R121), its event closed or not. -/
theorem pickerFault_faulted (hs : s.hand.picker.state = .serving) (after : Aftermath (pickerFault why s) t) :
    pickerFaulted why s t = true := by
  obtain ⟨picker, service⟩ := pickerFault_out (why := why) hs
  have told : (pickerFault why s).notice 3 =
      (s.notice 3).map (NoticeRec.raise (.pickerFault why (s.hand.service.map fun v => (v.panel, v.board)))) ∧
      ((pickerFault why s).node .picker).latch = s.latchAfter .picker why := by
    cases hv : s.hand.service with
    | none =>
      rw [pickerFault_idle why hs hv]
      exact ⟨raise_notice_once _ _ 3, latched_latch .picker why s⟩
    | some v =>
      have freed := serviceFreed_freed why hv
      have calm := pickerFault_calm (why := why) hs hv
      exact ⟨(calm.notice 3 (by decide)).trans ((freed.notice 3).trans (if_pos rfl)), calm.picker ▸ freed.latch⟩
  simp [pickerFaulted, after.hand, after.notice 3, after.picker, picker, service, told]

end

/-! ### The board of the service, as the event leaves it (R65, R66) -/

section
variable {s u w x t : State} {b : Nat} {p c : Panel} {r : Board}

/-- A board back in READY stays so to the end of the event. -/
theorem BackReady.remains {front : Bool} (back : BackReady b r front u w) (tracker : u.tracker = s.tracker)
    (same : x.tracker = w.tracker ∧ x.hand = w.hand) (after : Aftermath x t) (hp : s.tracker.active = some p)
    (apart : ∀ c, s.tracker.closing = some c → c.half ≠ p.half) :
    t.board .active b = some { r with state := .ready, dest := if r.bad then r.dest else none } ∧
      t.tracker.pickQueue = (if front then b :: s.tracker.pickQueue else s.tracker.pickQueue) ∧
      t.hand.binReserved = u.hand.binReserved ∧
      t.tracker.active.map (fun q => (q.id, q.tally)) = some (p.id, p.tally) := by
  obtain ⟨same, hand⟩ := same
  have active : x.tracker.active = some p := by rw [same, back.active, tracker, hp]
  refine ⟨after.board p active (fun c hc => apart c ?_) b _ ((State.board_congr same .active b).trans back.board) nofun,
    ?_, ?_, ?_⟩
  · rw [← hc, same, back.closing, tracker]
  · rw [after.queue, same, back.queue, tracker]
  · rw [after.hand, hand, back.hand]
  · rw [after.active, active, Option.map_some]

/-- A RETAINED board stays so to the end of the event. -/
theorem Retained.remains {why : RetainReason} (retained : Retained b why p r u w) (tracker : u.tracker = s.tracker)
    (same : x.tracker = w.tracker ∧ x.hand = w.hand) (after : Aftermath x t)
    (apart : ∀ c, s.tracker.closing = some c → c.half ≠ p.half) :
    t.boardState .active b = some (.retained why) ∧ t.hand.binReserved = w.hand.binReserved ∧
      t.tracker.active.map (fun q => (q.id, q.tally)) =
        some (p.id, { p.tally with retained := p.tally.retained + 1 }) := by
  obtain ⟨same, hand⟩ := same
  have active : x.tracker.active = some p.countRetained := by rw [same, retained.active]
  obtain ⟨n, -, board⟩ := retained.board
  have kept := after.board p.countRetained active (fun c hc => apart c (by rw [← hc, same, retained.tracker, tracker])) b _
    ((State.board_congr same .active b).trans board) nofun
  exact ⟨State.boardState_of_board kept, by rw [after.hand, hand], by rw [after.active, active]; rfl⟩

/-- A tab that the retention of its board skips stays so to the end of the event (R60). -/
theorem Retained.skips {why : RetainReason} (retained : Retained b why p r u w) (after : Aftermath w t) {i : Nat} {y : Tab}
    (hy : u.tab i = some y) (kind : y.kind = .frame) (owner : y.owner = b) (hs : y.state = .queued ∨ y.state = .held) :
    (t.tab i).map Tab.state = some .skipped := by
  obtain ⟨w', before, now⟩ := retained.disp
  have hy' : w'.tab i = some y := by rw [State.tab, before]; exact hy
  obtain ⟨skipped, gone⟩ := skipTabsOf_own hy' kind owner hs
  have out : ¬ w.listed i := fun h => gone ((State.listed_congr (by rw [now]) (by rw [now]) i).1 h)
  rw [after.tabs i out, State.tab, now]
  exact skipped

/-- A board that the picker's fault gives back to READY, or to RETAINED under an abort mark (R66). -/
theorem returnReady_settles (front : Bool) (hp : u.tracker.active = some p) (hr : u.board .active b = some r)
    (hv : u.hand.service = none) :
    (p.abort = none → BackReady b r front u (returnReady b front u)) ∧
      (p.abort.isSome = true → Retained b .aborted p r u (returnReady b front u) ∧
        (returnReady b front u).hand = { u.hand with
          binReserved := u.hand.binReserved - (if r.bad = true ∧ r.dest = some .bin then 1 else 0) }) := by
  have marked : u.abortMarked = p.abort.isSome := by rw [State.abortMarked, hp]
  refine ⟨fun h => returnReady_back front (by rw [marked, h]; rfl) hr, fun h => ?_⟩
  rw [returnReady_aborted front (marked.trans h), retainNow_away .aborted hp hr (.inr hv)]
  exact ⟨retaining_retained .aborted hp hr, (retaining_hand u b .aborted r).1⟩

/-- A LOST board of the active panel stays so to the end of the event. -/
theorem Lost.remains_active {why : LostReason} (lost : Lost .active b why p r u w) (tracker : u.tracker = s.tracker)
    (after : Aftermath w t) (apart : ∀ c, s.tracker.closing = some c → c.half ≠ p.half) :
    t.boardState .active b = some (.lost why) ∧ t.hand.binReserved = w.hand.binReserved ∧
      t.tracker.active.map (fun q => (q.id, q.tally)) = some (p.id, { p.tally with lost := p.tally.lost + 1 }) ∧
      t.notice 15 = (u.notice 15).map (NoticeRec.raise (.boardLost p.id b why)) := by
  have active : w.tracker.active = some p.countLost := lost.panel
  have kept := after.board p.countLost active (fun c hc => apart c (by rw [← hc, lost.closing rfl, tracker])) b _ lost.board
    nofun
  exact ⟨State.boardState_of_board kept, by rw [after.hand], by rw [after.active, active]; rfl,
    (after.notice 15 (by decide) (by decide)).trans ((lost.notice 15).trans (if_pos rfl))⟩

/-- A LOST board of the closing panel stays so until the panel closes with its tally (R50). -/
theorem Lost.remains_closing {why : LostReason} (lost : Lost .closing b why c r u w) (after : Aftermath w t) :
    t.hand.binReserved = w.hand.binReserved ∧
      t.notice 15 = (u.notice 15).map (NoticeRec.raise (.boardLost c.id b why)) ∧
      ((t.tracker.closing = some c.countLost ∧ t.boardState .closing b = some (.lost why)) ∨
        (t.tracker.closing = none ∧ t.tracker.lastTally = some c.countLost.closed)) := by
  refine ⟨by rw [after.hand], (after.notice 15 (by decide) (by decide)).trans ((lost.notice 15).trans (if_pos rfl)), ?_⟩
  rcases after.closing c.countLost lost.panel with ⟨closing, boards⟩ | gone
  · exact .inl ⟨closing, State.boardState_of_board (boards b _ lost.board nofun)⟩
  · exact .inr gone

end

end Sys2Proof.Machine
end

section
/-! The board a faulted picker served, settled (R66, R145): what the fault and the rest of its event make of it and of its
release tab. -/

namespace Sys2Proof.Machine

/-- Board b of the active panel is READY, with the pick queue, the bin's reserved places and the tally as said. -/
def State.readyAgain (t : State) (p : Panel) (r : Board) (b bin : Nat) (queue : List Nat) : Prop :=
  t.board .active b = some { r with state := .ready, dest := if r.bad then r.dest else none } ∧
    t.tracker.pickQueue = queue ∧ t.hand.binReserved = bin ∧
    t.tracker.active.map (fun q => (q.id, q.tally)) = some (p.id, p.tally)

/-- Board b of the active panel is RETAINED by its abort, and counted, with the bin's reserved places as said. -/
def State.retainedAborted (t : State) (p : Panel) (b bin : Nat) : Prop :=
  t.boardState .active b = some (.retained .aborted) ∧ t.hand.binReserved = bin ∧
    t.tracker.active.map (fun q => (q.id, q.tally)) = some (p.id, { p.tally with retained := p.tally.retained + 1 })

/-- The bin's reserved places once a board that is LOST or RETAINED has given up its own (R58). -/
def Board.gives (r : Board) (bin : Nat) : Nat := bin - (if r.bad = true ∧ r.dest = some .bin then 1 else 0)

section
variable {s f t : State} {b : Nat} {p : Panel} {r : Board} {ref : PanelRef}

theorem faultBoard_held (hr : f.board ref b = some r) (state : r.state = .gripWait ∨ r.state = .gripped) :
    faultBoard ref b f = returnReady b true (revoke r.releaseTab f) := by
  rcases state with h | h <;> simp [faultBoard, hr, h]

theorem faultBoard_off (hr : f.board ref b = some r) (state : r.state = .free ∨ r.state = .inTransit) :
    faultBoard ref b f = loseBoard ref b .pickerFault f := by
  rcases state with h | h <;> simp [faultBoard, hr, h]

theorem faultBoard_releasing (hr : f.board ref b = some r) (state : r.state = .releasing) : faultBoard ref b f =
    if f.releaseOut r.releaseTab then returnReady b false (stopTab r.releaseTab .hold f)
    else (returnReady b true (stopTab r.releaseTab .hold f)).modTab r.releaseTab fun t => { t with settlement := none } := by
  cases h : f.releaseOut r.releaseTab <;> simp [faultBoard, hr, state, h]

/-- A board in GRIP_WAIT or GRIPPED goes back to the pick queue or is RETAINED, and its release tab is HELD again or SKIPPED. -/
theorem fault_of_held (hv : f.hand.service = none) (tracker : f.tracker = s.tracker) (disp : f.disp = s.disp)
    (hp : s.tracker.active = some p) (apart : ∀ c, s.tracker.closing = some c → c.half ≠ p.half)
    (hr : s.board .active b = some r) (state : r.state = .gripWait ∨ r.state = .gripped)
    (after : Aftermath (faultBoard .active b f) t) :
    ((p.abort = none → t.readyAgain p r b f.hand.binReserved (b :: s.tracker.pickQueue)) ∧
      (p.abort.isSome = true → t.retainedAborted p b (r.gives f.hand.binReserved))) ∧
    ∀ x, s.tab r.releaseTab = some x →
      (p.abort = none → x.state = .queued →
        t.tab r.releaseTab = some { x with state := .held, place := none } ∧ ¬ t.listed r.releaseTab) ∧
      (p.abort = none → x.state = .held → ¬ s.listed r.releaseTab → t.tab r.releaseTab = some x) ∧
      (p.abort.isSome = true → x.kind = .frame ∧ x.owner = b → x.state = .queued ∨ x.state = .held →
        (t.tab r.releaseTab).map Tab.state = some .skipped) := by
  have hr' : f.board .active b = some r := (State.board_congr tracker .active b).trans hr
  rw [faultBoard_held hr' state] at after
  set u := revoke r.releaseTab f with hu
  obtain ⟨kept, hand, -⟩ := revoke_rest r.releaseTab f
  have tracker' : u.tracker = s.tracker := kept.trans tracker
  obtain ⟨back, retained⟩ := returnReady_settles true (u := u) (by rw [tracker', hp])
    ((State.board_congr tracker' .active b).trans hr) (by rw [hand, hv])
  have tab : f.tab r.releaseTab = s.tab r.releaseTab := by rw [State.tab, disp, State.tab]
  refine ⟨⟨fun h => ?_, fun h => ?_⟩, fun x hx => ⟨fun h hs => ?_, fun h hs free => ?_, fun h own hs => ?_⟩⟩
  · rw [State.readyAgain, ← hand]
    exact (back h).remains tracker' ⟨rfl, rfl⟩ after hp apart
  · have result := (retained h).1.remains tracker' ⟨rfl, rfl⟩ after apart
    rw [(retained h).2, hand] at result
    exact result
  · obtain ⟨held, gone⟩ := revoke_queued (tab.trans hx) hs
    have same : (returnReady b true u).disp = u.disp := (back h).disp
    have out : ¬ (returnReady b true u).listed r.releaseTab := fun l =>
      gone ((State.listed_congr (by rw [same]) (by rw [same]) _).1 l)
    exact ⟨(after.tabs _ out).trans (by rw [State.tab, same]; exact held), fun l => out (after.listed _ l)⟩
  · have still : u = f := revoke_held (tab.trans hx) hs
    have same : (returnReady b true u).disp = s.disp := (back h).disp.trans (by rw [still, disp])
    have out : ¬ (returnReady b true u).listed r.releaseTab := fun l =>
      free ((State.listed_congr (by rw [same]) (by rw [same]) _).1 l)
    exact (after.tabs _ out).trans (by rw [State.tab, same]; exact hx)
  · obtain ⟨y, hy, kind, owner, held⟩ : ∃ y, u.tab r.releaseTab = some y ∧ y.kind = .frame ∧ y.owner = b ∧ y.state = .held := by
      rcases hs with hs | hs
      · exact ⟨_, (revoke_queued (tab.trans hx) hs).1, own.1, own.2, rfl⟩
      · exact ⟨x, by rw [hu, revoke_held (tab.trans hx) hs, tab, hx], own.1, own.2, hs⟩
    exact (retained h).1.skips after hy kind owner (.inr held)

/-- A RELEASING board whose cut has ended goes back to the pick queue or is RETAINED; the settlement that was pending is
cleared. -/
theorem fault_of_settling (hv : f.hand.service = none) (tracker : f.tracker = s.tracker) (disp : f.disp = s.disp)
    (hp : s.tracker.active = some p) (apart : ∀ c, s.tracker.closing = some c → c.half ≠ p.half)
    (hr : s.board .active b = some r) (state : r.state = .releasing) {x : Tab} (hx : s.tab r.releaseTab = some x)
    (hs : x.state = .held) (after : Aftermath (faultBoard .active b f) t) :
    (p.abort = none → t.readyAgain p r b f.hand.binReserved (b :: s.tracker.pickQueue) ∧
      (¬ s.listed r.releaseTab → t.tab r.releaseTab = some { x with settlement := none })) ∧
    (p.abort.isSome = true → t.retainedAborted p b (r.gives f.hand.binReserved) ∧
      (x.kind = .frame ∧ x.owner = b → (t.tab r.releaseTab).map Tab.state = some .skipped)) := by
  have hr' : f.board .active b = some r := (State.board_congr tracker .active b).trans hr
  have tab : f.tab r.releaseTab = s.tab r.releaseTab := by rw [State.tab, disp, State.tab]
  have out : ¬ f.releaseOut r.releaseTab = true := by simp [State.releaseOut, tab, hx, hs]
  rw [faultBoard_releasing hr' state, if_neg out] at after
  set u := stopTab r.releaseTab .hold f with hu
  obtain ⟨kept, hand, -, -, tabs, lists⟩ := stopTab_rest r.releaseTab .hold f
  have tracker' : u.tracker = s.tracker := kept.trans tracker
  have hx' : u.tab r.releaseTab = some x := (tabs _).trans (tab.trans hx)
  obtain ⟨back, retained⟩ := returnReady_settles true (u := u) (by rw [tracker', hp])
    ((State.board_congr tracker' .active b).trans hr) (by rw [hand, hv])
  refine ⟨fun h => ⟨?_, fun free => ?_⟩, fun h => ⟨?_, fun own => ?_⟩⟩
  · rw [State.readyAgain, ← hand]
    exact (back h).remains (x := (returnReady b true u).modTab r.releaseTab fun t =>
      { t with settlement := none }) tracker' ⟨rfl, rfl⟩ after hp apart
  · have same := (back h).disp
    have gone : ¬ (returnReady b true u).listed r.releaseTab := fun l =>
      free ((State.listed_congr (by rw [disp]) (by rw [disp]) _).1
        ((lists _).1 ((State.listed_congr (by rw [same]) (by rw [same]) _).1 l)))
    have now : (returnReady b true u).tab r.releaseTab = some x := by rw [State.tab, same]; exact hx'
    rw [after.tabs _ gone, State.modTab_tab, if_pos rfl, now]
    rfl
  · have result := (retained h).1.remains (x := (returnReady b true u).modTab r.releaseTab fun t =>
      { t with settlement := none }) tracker' ⟨rfl, rfl⟩ after apart
    rw [(retained h).2, hand] at result
    exact result
  · obtain ⟨w, before, now⟩ := (retained h).1.disp
    have hw : w.tab r.releaseTab = some x := by rw [State.tab, before]; exact hx'
    obtain ⟨skipped, gone⟩ := skipTabsOf_own hw own.1 own.2 (.inr hs)
    have out : ¬ (returnReady b true u).listed r.releaseTab := fun l =>
      gone ((State.listed_congr (by rw [now]) (by rw [now]) _).1 l)
    have same : (returnReady b true u).tab r.releaseTab = (skipTabsOf b w).tab r.releaseTab := by
      rw [State.tab, now, State.tab]
    rw [after.tabs _ out, State.modTab_tab, if_pos rfl, same, Option.map_map]
    exact skipped

/-- A RELEASING board whose cut runs on goes back to READY, to join the pick queue when the cut ends, or is RETAINED; its cut is
stopped. -/
theorem fault_of_releasing (hv : f.hand.service = none) (tracker : f.tracker = s.tracker) (disp : f.disp = s.disp)
    (hp : s.tracker.active = some p) (apart : ∀ c, s.tracker.closing = some c → c.half ≠ p.half)
    (hr : s.board .active b = some r) (state : r.state = .releasing) {x : Tab} (hx : s.tab r.releaseTab = some x)
    (hs : x.state = .ordered) (after : Aftermath (faultBoard .active b f) t) :
    (t.tab r.releaseTab).map Tab.state = some .ordered ∧
    (p.abort = none → t.readyAgain p r b f.hand.binReserved s.tracker.pickQueue) ∧
    (p.abort.isSome = true → t.retainedAborted p b (r.gives f.hand.binReserved) ∧
      (x.kind = .frame ∧ x.owner = b → (t.tab r.releaseTab).map Tab.standing = some true)) ∧
    ∀ h, (s.head h).tab = some r.releaseTab → (s.head h).state = .cutting →
      (h = .b → (s.head .a).tab ≠ some r.releaseTab) →
      (t.head h).state = .stopping ∧ (t.head h).cause = some .hold ∧ (t.node h.node).order = .stop := by
  have hr' : f.board .active b = some r := (State.board_congr tracker .active b).trans hr
  have tab : f.tab r.releaseTab = s.tab r.releaseTab := by rw [State.tab, disp, State.tab]
  have out : f.releaseOut r.releaseTab = true := by simp [State.releaseOut, tab, hx, hs]
  rw [faultBoard_releasing hr' state, if_pos out] at after
  set u := stopTab r.releaseTab .hold f with hu
  obtain ⟨kept, hand, -, -, tabs, lists⟩ := stopTab_rest r.releaseTab .hold f
  have tracker' : u.tracker = s.tracker := kept.trans tracker
  have hx' : u.tab r.releaseTab = some x := (tabs _).trans (tab.trans hx)
  have hp' : u.tracker.active = some p := by rw [tracker', hp]
  have board : u.board .active b = some r := (State.board_congr tracker' .active b).trans hr
  obtain ⟨back, retained⟩ := returnReady_settles false hp' board (by rw [hand, hv])
  have outcome : p.abort = none ∨ p.abort.isSome = true := by cases p.abort <;> simp
  have ordered : ∃ y, (returnReady b false u).tab r.releaseTab = some y ∧ y.state = .ordered ∧
      (p.abort.isSome = true → x.kind = .frame → x.owner = b → y.standing = true) := by
    rcases outcome with h | h
    · exact ⟨x, by rw [State.tab, (back h).disp]; exact hx', hs, fun m => by simp [h] at m⟩
    · obtain ⟨w, before, now⟩ := (retained h).1.disp
      have hw : w.tab r.releaseTab = some x := by rw [State.tab, before]; exact hx'
      obtain ⟨y, hy, ordered, standing⟩ := skipTabsOf_ordered (b := b) hw hs
      exact ⟨y, by rw [State.tab, now]; exact hy, ordered, fun _ => standing⟩
  obtain ⟨y, hy, ordered, standing⟩ := ordered
  obtain ⟨z, hz, ordered', standing'⟩ := after.ordered _ y hy ordered
  refine ⟨by rw [hz, Option.map_some, ordered'], fun h => ?_, fun h => ⟨?_, fun own => ?_⟩, fun h ht cutting first => ?_⟩
  · rw [State.readyAgain, ← hand]
    exact (back h).remains tracker' ⟨rfl, rfl⟩ after hp apart
  · have result := (retained h).1.remains tracker' ⟨rfl, rfl⟩ after apart
    rw [(retained h).2, hand] at result
    exact result
  · rw [hz, Option.map_some, standing', standing h own.1 own.2]
  · have heads : f.head = s.head := by unfold State.head; rw [disp]
    obtain ⟨stopping, cause, order⟩ := stopTab_stops (s := f) .hold (by rw [heads]; exact ht) (by rw [heads]; exact cutting)
      (by rw [heads]; exact first)
    have same : ((returnReady b false u).head h).bare = (u.head h).bare ∧
        (returnReady b false u).node h.node = u.node h.node := by
      rcases outcome with m | m
      · exact ⟨by rw [State.head, (back m).disp, State.head], by simp only [State.node, (back m).ring]⟩
      · have run : returnReady b false u = skipTabsOf b (u.retaining b .aborted r) := by
          rw [returnReady_aborted false (by rw [State.abortMarked, hp']; exact m),
            retainNow_away .aborted hp' board (.inr (by rw [hand, hv]))]
        have ring := (retaining_hand u b .aborted r).2
        obtain ⟨w, before, now⟩ := (retained m).1.disp
        refine ⟨?_, by rw [run]; simp only [State.node, ring]⟩
        have kept := State.head_of_bare (skipTabsOf_bare w b) h
        rw [State.head, State.head, before] at kept
        rw [State.head, now]
        exact kept
    have stopped : ((returnReady b false u).head h).state = .stopping :=
      (congrArg HeadRec.state same.1).trans stopping
    obtain ⟨bare, node⟩ := after.heads h (by rw [stopped]; nofun)
    exact ⟨(congrArg HeadRec.state bare).trans stopped,
      (congrArg HeadRec.cause bare).trans ((congrArg HeadRec.cause same.1).trans cause),
      by rw [node, same.2, order]⟩

/-- A FREE or IN_TRANSIT board of the active panel is LOST (R65, R66). -/
theorem fault_of_off (tracker : f.tracker = s.tracker)
    (hp : s.tracker.active = some p) (apart : ∀ c, s.tracker.closing = some c → c.half ≠ p.half)
    (hr : s.board .active b = some r) (state : r.state = .free ∨ r.state = .inTransit)
    (after : Aftermath (faultBoard .active b f) t) :
    t.boardState .active b = some (.lost .pickerFault) ∧ t.hand.binReserved = r.gives f.hand.binReserved ∧
      t.tracker.active.map (fun q => (q.id, q.tally)) = some (p.id, { p.tally with lost := p.tally.lost + 1 }) ∧
      t.notice 15 = (f.notice 15).map (NoticeRec.raise (.boardLost p.id b .pickerFault)) := by
  have hr' : f.board .active b = some r := (State.board_congr tracker .active b).trans hr
  rw [faultBoard_off hr' state] at after
  have lost := loseBoard_lost .pickerFault (ref := .active) (show f.panel .active = some p by rw [← hp, ← tracker]; rfl) hr'
    (by rcases state with h | h <;> rw [h] <;> rfl)
  obtain ⟨board, bin, tally, notice⟩ := lost.remains_active tracker after apart
  exact ⟨board, by rw [bin, lost.hand]; rfl, tally, notice⟩

/-- A FREE or IN_TRANSIT board of the closing panel is LOST, which may close the panel (R50, R65, R66). -/
theorem fault_of_closing {c : Panel} (tracker : f.tracker = s.tracker) (hc : s.tracker.closing = some c)
    (hr : s.board .closing b = some r) (state : r.state = .free ∨ r.state = .inTransit)
    (after : Aftermath (faultBoard .closing b f) t) :
    t.hand.binReserved = r.gives f.hand.binReserved ∧
      t.notice 15 = (f.notice 15).map (NoticeRec.raise (.boardLost c.id b .pickerFault)) ∧
      ((t.tracker.closing = some c.countLost ∧ t.boardState .closing b = some (.lost .pickerFault)) ∨
        (t.tracker.closing = none ∧ t.tracker.lastTally = some c.countLost.closed)) := by
  have hr' : f.board .closing b = some r := (State.board_congr tracker .closing b).trans hr
  rw [faultBoard_off hr' state] at after
  have lost := loseBoard_lost .pickerFault (ref := .closing) (show f.panel .closing = some c by rw [← hc, ← tracker]; rfl) hr'
    (by rcases state with h | h <;> rw [h] <;> rfl)
  obtain ⟨bin, notice, closing⟩ := lost.remains_closing after
  exact ⟨by rw [bin, lost.hand]; rfl, notice, closing⟩

end

section
variable {s t : State} {why : FaultReason}

/-- The picker's fault settles the service as the obligations read it (R66, R145), its event closed or not. -/
theorem pickerFault_settles (hs : s.hand.picker.state = .serving) (after : Aftermath (pickerFault why s) t) :
    servedSettled s t := by
  intro v hv
  have freed := serviceFreed_freed why hv
  have calm := pickerFault_calm (why := why) hs hv
  have run := pickerFault_serving why hs hv
  set f := s.serviceFreed why v with hf
  obtain ⟨n, hand⟩ := calm.hand
  have lanes : t.hand.lanes = f.hand.lanes := by rw [after.hand, hand]
  have lane (k : Nat) : t.lane k = f.lane k := by rw [State.lane, lanes, State.lane]
  have quiet : f.notice 15 = s.notice 15 := (freed.notice 15).trans (if_neg (by decide))
  have active {p : Panel} (hp : s.tracker.active = some p) (hid : p.id = v.panel) (torn : v.torn = false) :
      Aftermath (faultBoard .active v.board f) t := by
    rw [torn, if_neg Bool.false_ne_true, State.panelRef_congr freed.tracker, State.panelRef_active hp hid] at run
    rw [run] at after
    exact after
  dsimp only
  rw [← freed.reserved]
  refine ⟨?_, fun k i hd reserved => ?_, fun torn => ?_, fun torn p hp hid apart r hr => ?_,
    fun torn c hc hid other r hr state => ?_⟩
  · rw [after.hand, hand]
    exact freed.filled
  · obtain ⟨slot, counts⟩ := freed.slot k i hd reserved
    exact ⟨by rw [State.slot, lane]; exact slot, by rw [lane, counts]⟩
  · rw [torn, if_pos rfl] at run
    rw [run] at after
    exact ⟨by rw [after.hand], by rw [after.queue, freed.tracker],
      (after.notice 15 (by decide) (by decide)).trans quiet⟩
  · have board : s.board .active v.board = some r := (State.board_active hp _).trans hr
    have settled := active hp hid torn
    refine ⟨fun state => ?_, fun state => ?_, fun x hx => ⟨fun state => ?_, fun state held => ?_, fun state ordered => ?_⟩⟩
    · exact (fault_of_held freed.service freed.tracker freed.disp hp apart board state settled).1
    · rw [← quiet]
      exact fault_of_off freed.tracker hp apart board state settled
    · exact (fault_of_held freed.service freed.tracker freed.disp hp apart board state settled).2 x hx
    · exact fault_of_settling freed.service freed.tracker freed.disp hp apart board state hx held settled
    · exact fault_of_releasing freed.service freed.tracker freed.disp hp apart board state hx ordered settled
  · have board : s.board .closing v.board = some r := (State.board_closing hc _).trans hr
    rw [torn, if_neg Bool.false_ne_true, State.panelRef_congr freed.tracker, State.panelRef_closing hc hid other] at run
    rw [run] at after
    rw [← quiet]
    exact fault_of_closing freed.tracker hc board state after

end

end Sys2Proof.Machine
end

section
/-! The timers of the handover (R120, R121, R127). -/

namespace Sys2Proof.Machine

section
variable {s : State}

/-- The close of an event raises PANEL_DONE, PANEL_CLOSED and MAGAZINE_FULL alone (R48, R50, R124). -/
theorem settle_notice (s : State) {k : Nat} (h10 : k ≠ 10) (h13 : k ≠ 13) (h14 : k ≠ 14) :
    (settle s).notice k = s.notice k := by
  have closed : (writeDue (testClose (testDone s))).notice k = s.notice k := by
    rw [State.notice, (writeDue_tables _).1]
    exact (testClose_notice _ h14).trans (testDone_notice _ h13)
  rw [settle, State.notice, clearMarks_notices, (runArbiter_arbitrated _).notices]
  exact ((selectIfAsked_selected _).notice k h10).trans closed

/-- An elevator that is out of service stays as it is to the end of the event (R120, R125, R146). -/
theorem settle_elevator_out (h : s.elevatorInService = false) :
    (settle s).hand.elevator = s.hand.elevator ∧ (settle s).node .elevator = s.node .elevator := by
  set u := writeRetract (testClose (testDone s)) with hu
  have ring : (testClose (testDone s)).ring = s.ring := by simp
  have elevator : u.hand.elevator = s.hand.elevator ∧ u.node .elevator = s.node .elevator := by
    obtain ⟨-, elevator, -, node⟩ := writeRetract_tables (testClose (testDone s))
    exact ⟨elevator.trans (by simp), node.trans (by simp only [State.node, ring])⟩
  have waits : writeReindex u = u := writeReindex_waits fun idle => by
    simp [State.elevatorInService, ← elevator.1, idle] at h
  have due : (writeDue (testClose (testDone s))).hand.elevator = s.hand.elevator ∧
      (writeDue (testClose (testDone s))).node .elevator = s.node .elevator := by
    obtain ⟨-, -, lift, -, lift'⟩ := writeLift_tables u
    obtain ⟨-, -, place, place'⟩ := writePlace_tables (writeLift u)
    rw [writeDue, ← hu, waits]
    exact ⟨place.trans (lift.trans elevator.1), place'.trans (lift'.trans elevator.2)⟩
  have out : (writeDue (testClose (testDone s))).elevatorInService = false := by
    rw [State.elevatorInService, due.1]
    exact h
  obtain ⟨kept, node⟩ := (selectIfAsked_selected _).elevator out
  have arb := runArbiter_arbitrated (selectIfAsked (writeDue (testClose (testDone s))))
  refine ⟨?_, ?_⟩
  · rw [settle, clearMarks_hand, arb.hand, kept, due.1]
  · exact (arb.nodes .elevator fun k => by cases k <;> nofun).trans (node.trans due.2)

/-- A service that waits for its INDEX stays as it is to the end of an event in which the elevator is out of service (R146). -/
theorem settle_service_waiting (h : s.elevatorInService = false) {v : Service} (hv : s.hand.service = some v)
    (hi : v.index = .waiting) : (settle s).hand.service = some v := by
  set u := writeRetract (testClose (testDone s)) with hu
  obtain ⟨-, elevator, service, -⟩ := writeRetract_tables (testClose (testDone s))
  have waits : writeReindex u = u := writeReindex_waits fun idle => by
    simp [State.elevatorInService, ← show u.hand.elevator = s.hand.elevator from elevator.trans (by simp), idle] at h
  obtain ⟨-, -, -, lift, -⟩ := writeLift_tables u
  have due : (writeDue (testClose (testDone s))).hand.service = some v := by
    rw [writeDue, ← hu, waits]
    exact writePlace_service (lift.trans (service.trans (by simp [hv]))) hi
  rw [settle, clearMarks_hand, (runArbiter_arbitrated _).hand, selectIfAsked_busy (.inl (by simp [due])), due]

end

section
variable {s : State} {why : FaultReason}

/-- The elevator's fault as its branches write it (R120, R146). -/
theorem elevatorFault_indexing (h : s.hand.elevator.state = .indexing) :
    (elevatorFault why s).hand.elevator = { state := .fault, reason := some why, order := none, timer := none } ∧
      (elevatorFault why s).hand.service =
        s.hand.service.map (fun v => if v.index = .out ∨ v.index = .done then { v with index := .waiting } else v) ∧
      ((elevatorFault why s).node .elevator).latch = s.latchAfter .elevator why ∧
      (elevatorFault why s).notice 4 = (s.notice 4).map (NoticeRec.raise (.elevatorFault why)) := by
  have run : elevatorFault why s = (raise (.elevatorFault why) ((setLatch .elevator why s).modElevator fun e =>
      { e with state := .fault, reason := some why, order := none, timer := none })).modService fun v =>
        if v.index = .out ∨ v.index = .done then { v with index := .waiting } else v := by simp [elevatorFault, h]
  rw [run]
  exact ⟨rfl, rfl, latched_latch .elevator why s, raise_notice_once _ _ 4⟩

/-- The elevator's fault as the obligations read it, its event closed or not. -/
theorem elevatorFault_faulted {t : State} (h : s.hand.elevator.state = .indexing)
    (elevator : t.hand.elevator = (elevatorFault why s).hand.elevator)
    (node : t.node .elevator = (elevatorFault why s).node .elevator) (notice : t.notice 4 = (elevatorFault why s).notice 4) :
    elevatorFaulted why s t = true := by
  obtain ⟨record, -, latch, told⟩ := elevatorFault_indexing (why := why) h
  simp [elevatorFaulted, elevator, node, notice, record, latch, told]

/-- Settles O53: the two faults are followed to the end of their event; the other clauses name a branch each. -/
theorem handoverTimersExpire : Obligations.HandoverTimersExpire := by
  unfold Obligations.HandoverTimersExpire
  intro s
  refine ⟨fun q order timer => ?_, fun idle => ?_, fun k q order other timer state => ?_, fun idle => ?_,
    fun timer state => ?_, fun idle => ?_⟩
  · have run : pickExpiry s = writePicker .retract .retract s := by simp [pickExpiry, order, timer]
    exact congrArg Host.Outcome.next run
  · refine congrArg Host.Outcome.next (?_ : pickExpiry s = s)
    unfold pickExpiry
    split
    · next q order =>
      rcases idle with h | h
      · simp [h]
      · exact absurd order (h q)
    · rfl
  · have run : pickerExpiry s = settle (pickerFault .timeout s) := by
      cases k <;> first | exact absurd rfl other | simp [pickerExpiry, order, timer]
    obtain ⟨picker, service⟩ := pickerFault_out (why := .timeout) state
    have after := settle_aftermath (s := pickerFault .timeout s) (by rw [picker]; nofun) (by rw [picker]) service
    exact ⟨_, congrArg Host.Outcome.next run, by simp, pickerFault_faulted state after, pickerFault_settles state after⟩
  · refine congrArg Host.Outcome.next (?_ : pickerExpiry s = s)
    unfold pickerExpiry
    split
    · rfl
    · next other order =>
      rcases idle with h | h | ⟨q, h⟩
      · simp [h]
      · simp [h] at order
      · exact absurd (Option.some.inj (order.symm.trans h)) (other q)
    · rfl
  · have run : indexExpiry s = settle (elevatorFault .timeout s) := if_pos timer
    obtain ⟨record, waits, -⟩ := elevatorFault_indexing (why := .timeout) state
    have out : (elevatorFault .timeout s).elevatorInService = false := by rw [State.elevatorInService, record]; rfl
    obtain ⟨elevator, node⟩ := settle_elevator_out out
    refine ⟨_, congrArg Host.Outcome.next run, by simp,
      elevatorFault_faulted state elevator node (settle_notice _ (by decide) (by decide) (by decide)), fun v hv index => ?_⟩
    refine settle_service_waiting out ?_ rfl
    rw [waits, hv, Option.map_some, if_pos index]
  · exact congrArg Host.Outcome.next (if_neg (by simp [idle]) : indexExpiry s = s)

end

end Sys2Proof.Machine
end

section
/-! The end of a release cut that is not cut through (R94, R133): what settling the tab makes of it and of the board it holds, and
the picker's shared operations, each said once. -/

namespace Sys2Proof.Machine

section
variable (s : State)

theorem State.param_congr {s t : State} (h : t.req = s.req) (q : Param) : t.param q = s.param q := by
  rw [State.param, h, State.param]

/-- A board's state written changes one half of the board table. -/
theorem setBoardState_tracker (ref : PanelRef) (b : Nat) (st : BoardState) : ∃ x y,
    setBoardState ref b st s = { s with tracker := { s.tracker with half0 := x, half1 := y } } :=
  s.modBoard_tracker ref b _

theorem setBoardState_self {ref : PanelRef} {b : Nat} {r : Board} (st : BoardState) (h : s.board ref b = some r) :
    (setBoardState ref b st s).board ref b = some { r with state := st } := s.modBoard_self _ h

/-- The service of a SERVING picker with no RETRACT due becomes FREE (R139). -/
theorem freeService_serving {s : State} (serving : s.hand.picker.state = .serving)
    (due : s.hand.picker.retractDue = false) : freeService s = askSelect { s with
      hand := { s.hand with service := none, picker := { s.hand.picker with state := .idle } } } := by
  exact congrArg askSelect (if_pos ⟨serving, due⟩)

/-- Freeing the service touches the service and the picker's state alone, and asks for a selection. -/
theorem freeService_rest : (freeService s).tracker = s.tracker ∧ (freeService s).disp = s.disp ∧
    (freeService s).ring = s.ring ∧ (freeService s).notices = s.notices ∧ (freeService s).lines = s.lines ∧
      (freeService s).req = s.req ∧ (freeService s).spindle = s.spindle ∧ (freeService s).hand.service = none ∧
      (freeService s).hand.tables = s.hand.tables ∧ (freeService s).ev.ofHeads = s.ev.ofHeads := by
  unfold freeService
  dsimp only
  split <;> exact ⟨rfl, rfl, rfl, rfl, rfl, rfl, rfl, rfl, rfl, rfl⟩

/-- A withdrawal frees the service, and where no order is out writes RETRACT in RUN (R128, R129). -/
theorem withdraw_frees {s : State} {v : Service} (hv : s.hand.service = some v) (order : s.hand.picker.order = none) :
    (withdraw s).hand.service = none ∧ (s.running = true → ((withdraw s).node .picker).order = .retract ∧
      ((withdraw s).node .picker).seq = nextSeq (s.node .picker).seq) := by
  set w := releaseContingency (releaseSlot v.dest s) with hw
  obtain ⟨lanes, e, slot⟩ := releaseSlot_eq s v.dest
  have service : (releaseSlot v.dest s).hand.service = some v := by rw [slot]; exact hv
  have hand := releaseContingency_hand _ service
  obtain ⟨ring, -, lines, -⟩ := releaseContingency_rest (releaseSlot v.dest s)
  have picker : w.hand.picker = s.hand.picker := by rw [hw, hand, slot]
  have ring : w.ring = s.ring := ring.trans (by rw [slot])
  have running : w.running = s.running := by rw [State.running, lines, slot]; rfl
  set due : State := { w.modPicker (fun p => { p with retractDue := true }) with
    hand := { (w.modPicker fun p => { p with retractDue := true }).hand with service := none } } with hdue
  have run : withdraw s = writeRetract due := by
    simp only [withdraw, hv, ← hw, picker, order]
    rfl
  rw [run]
  refine ⟨(writeRetract_tables due).2.2.1, fun hr => ?_⟩
  have order' : due.hand.picker.order = none := (congrArg PickerRec.order picker).trans order
  have written : writeRetract due =
      (writePicker .retract .retract due).modPicker fun p => { p with retractDue := false } :=
    if_pos ⟨running.trans hr, rfl, order'⟩
  rw [written]
  refine ⟨rfl, ?_⟩
  have node : due.node .picker = s.node .picker := by simp only [State.node, ← ring]; rfl
  rw [← node]
  rfl

end

/-! ### A retention in the tab's settling -/

section
variable {s t : State} {b i : Nat} {p : Panel} {r : Board} {why : RetainReason}

/-- A tab that is over is untouched by the retention of its board (R60). -/
theorem Retained.tab_over (retained : Retained b why p r s t) {y : Tab} (hy : s.tab i = some y)
    (ended : y.state = .done ∨ y.state = .skipped ∨ y.state = .failed) : t.tab i = some y := by
  obtain ⟨w, before, now⟩ := retained.disp
  have hw : w.tab i = some y := by rw [State.tab, before]; exact hy
  have kept := skipTabsOf_tab_over b hw ended
  rw [State.tab, now]
  exact kept

theorem Retained.heads (retained : Retained b why p r s t) (k : Head) : (t.head k).bare = (s.head k).bare := by
  obtain ⟨w, before, now⟩ := retained.disp
  have kept := State.head_of_bare (skipTabsOf_bare w b) k
  rw [State.head, now]
  exact kept.trans (by rw [State.head, before, State.head])

theorem Retained.boardState (retained : Retained b why p r s t) : t.boardState .active b = some (.retained why) := by
  obtain ⟨n, -, board⟩ := retained.board
  exact State.boardState_of_board board

/-- A RELEASING board whose service the picker holds with no order out: the picker is withdrawn (R61). -/
theorem retainNow_frees {v : Service} (why : RetainReason) (hp : s.tracker.active = some p)
    (hr : s.board .active b = some r) (picker : r.state.atPicker = true) (hv : s.hand.service = some v)
    (panel : v.panel = p.id) (board : v.board = b) (order : s.hand.picker.order = none) :
    (retainNow b why s).hand.service = none ∧ (s.running = true → ((retainNow b why s).node .picker).order = .retract ∧
      ((retainNow b why s).node .picker).seq = nextSeq (s.node .picker).seq) := by
  have serves : s.serves p.id b = true := by simp [State.serves, hv, panel, board]
  have lines := (retaining_retained why hp hr).lines
  obtain ⟨hand, ring⟩ := retaining_hand s b why r
  rw [retainNow_eq why hp hr, picker, serves, Bool.and_self, if_pos rfl]
  obtain ⟨service, retract⟩ := withdraw_frees (s := skipTabsOf b (s.retaining b why r)) (v := v) (by rw [hand, hv])
    (by rw [hand, order])
  refine ⟨service, fun running => ?_⟩
  obtain ⟨written, seq⟩ := retract (by rw [State.running, lines]; exact running)
  refine ⟨written, seq.trans ?_⟩
  simp only [State.node, ring]

end

/-! ### The last rows of R94 -/

section
variable {s : State} {i : Nat} {x : Tab} {p : Panel} {r : Board} (h : Head) (stopped : Bool) (how : CutHow)

/-- A skipped tab, and its owner's board with the open-tab count lowered (R56, R71). -/
theorem markSkipped_owner {b : Nat} (w : SkipReason) (hr : s.board .active b = some r) :
    ∃ n ≤ r.openTabs, (markSkipped i w s).board .active b = some { r with openTabs := n } :=
  markSkipped_lowers i w s b r hr

theorem markSkipped_active (w : SkipReason) (s : State) :
    (markSkipped i w s).tracker.active = s.tracker.active := by
  rw [State.tracker_of_bare (markSkipped_bare s i w)]

theorem retainReleasing_now {b : Nat} (why : RetainReason) (hr : s.board .active b = some r) (hs : r.state = .releasing) :
    retainReleasing b why s = retainNow b why s := if_pos (by rw [State.boardState_of_board hr, hs])

/-- A release tab of a panel with an abort mark is SKIPPED and its board RETAINED (R94). -/
theorem settleRelease_aborted (hx : s.tab i = some x) (hp : s.tracker.active = some p) (mark : p.abort.isSome = true)
    (hr : s.board .active x.owner = some r) (hs : r.state = .releasing) :
    ∃ n ≤ r.openTabs, (markSkipped i .withdrawn s).board .active x.owner = some { r with openTabs := n } ∧
      settleRelease h stopped how i s = retainNow x.owner .aborted (markSkipped i .withdrawn s) := by
  have marked : s.abortMarked = true := by rw [State.abortMarked, hp]; exact mark
  obtain ⟨n, le, board⟩ := markSkipped_owner (i := i) .withdrawn hr
  have run : settleRelease h stopped how i s = retainReleasing x.owner .aborted (markSkipped i .withdrawn s) := by
    simp [settleRelease, hx, marked]
  exact ⟨n, le, board, run.trans (retainReleasing_now .aborted board hs)⟩

/-- The tab as failing leaves it (R93). -/
def Tab.failed (t : Tab) : Tab :=
  { t with state := .failed, place := none, cutHead := none, standing := false, settlement := none }

/-- A release tab at MAX_ATTEMPTS is FAILED and its board RETAINED (R94). -/
theorem settleRelease_failed (hx : s.tab i = some x) (hp : s.tracker.active = some p) (mark : p.abort = none)
    (tries : s.param .maxAttempts ≤ x.attempts) (hr : s.board .active x.owner = some r) (hs : r.state = .releasing) :
    settleRelease h stopped how i s =
      raise (.tabFailed p.id i how) (retainNow x.owner .tabFailed (s.modTab i Tab.failed)) := by
  have marked : s.abortMarked = false := by simp [State.abortMarked, hp, mark]
  have id : s.activeId = p.id := by rw [State.activeId, hp]
  have board : (s.modTab i Tab.failed).board .active x.owner = some r := hr
  have run : settleRelease h stopped how i s =
      raise (.tabFailed s.activeId i how) (retainReleasing x.owner .tabFailed (s.modTab i Tab.failed)) := by
    simp [settleRelease, hx, marked, tries]
    rfl
  rw [run, id, retainReleasing_now .tabFailed board hs]

/-- A release tab that is cut again goes back to a queue and its board to GRIPPED (R94). -/
theorem settleRelease_again (hx : s.tab i = some x) (hp : s.tracker.active = some p) (mark : p.abort = none)
    (tries : x.attempts < s.param .maxAttempts) (hr : s.board .active x.owner = some r) (hs : r.state = .releasing) :
    settleRelease h stopped how i s = requeue h stopped i (setBoardState .active x.owner .gripped s) := by
  have marked : s.abortMarked = false := by simp [State.abortMarked, hp, mark]
  have back : backToGripped x.owner s = setBoardState .active x.owner .gripped s :=
    if_pos (by rw [State.boardState_of_board hr, hs])
  simp [settleRelease, hx, marked, Nat.not_le.2 tries, back]

/-- A tab that goes back to a queue stands at the front of one (R93, R94). -/
theorem requeue_puts (hx : s.tab i = some x) : ∃ place e, requeue h stopped i s = putTab i place true { s with ev := e } := by
  unfold requeue
  simp only [hx]
  (repeat' split) <;> exact ⟨_, _, rfl⟩

/-- The tab as its queueing leaves it (R76). -/
def Tab.queuedIn (p : Place) (t : Tab) : Tab :=
  { t with state := .queued, place := some p, cutHead := none, standing := false, settlement := none }

theorem putTab_entry {place : Place} {front : Bool} (hx : s.tab i = some x) :
    (putTab i place front s).tab i = some (x.queuedIn place) := by
  have put := State.modTab_tab s i i (Tab.queuedIn place)
  rw [if_pos rfl, hx] at put
  cases place <;> exact put

theorem putTab_rest (i : Nat) (place : Place) (front : Bool) (s : State) : (putTab i place front s).tracker = s.tracker ∧
    (putTab i place front s).hand = s.hand ∧ (putTab i place front s).ring = s.ring ∧
      (putTab i place front s).notices = s.notices ∧ (putTab i place front s).ev = s.ev ∧
      (putTab i place front s).lines = s.lines ∧ (putTab i place front s).req = s.req ∧
      (putTab i place front s).spindle = s.spindle := by
  cases place <;> exact ⟨rfl, rfl, rfl, rfl, rfl, rfl, rfl, rfl⟩

end

end Sys2Proof.Machine
end

section
/-! The ends of the picker's orders (R126 to R139), each as the obligation on placements reads it. -/

namespace Sys2Proof.Machine

/-! ### Slots and orders, as the completions read them -/

section
variable {s t : State}

theorem State.slot_congr (h : t.hand.lanes = s.hand.lanes) (k i : Nat) : t.slot k i = s.slot k i := by
  rw [State.slot, State.lane, h, State.slot, State.lane]

/-- A RESERVED destination slot that is released is EMPTY. -/
theorem releaseSlot_slot {d : Dest} {k i : Nat} (hd : d = .lane k i) (reserved : s.slot k i = some .reserved) :
    (releaseSlot d s).slot k i = some .empty := by
  obtain ⟨l, hl, hi⟩ := State.lane_of_slot reserved
  subst hd
  exact slot_of_set (releaseSlot_lane hl hi) rfl hi

/-- A RESERVED destination slot that is suspected is SUSPECT. -/
theorem suspectSlot_slot {d : Dest} {k i : Nat} (hd : d = .lane k i) (reserved : s.slot k i = some .reserved) :
    (suspectSlot d s).slot k i = some .suspect := by
  obtain ⟨l, hl, hi⟩ := State.lane_of_slot reserved
  subst hd
  obtain ⟨m, hm, slots, -⟩ := suspectSlot_lane hl hi
  exact slot_of_set hm slots hi

theorem Handover.lanes_of_tables {x y : Handover} (h : x.tables = y.tables) : x.lanes = y.lanes := congrArg Prod.fst h

/-- The lane's part of the condition of a PLACE (R136). -/
theorem State.placeReady_iff (s : State) (v : Service) : s.placeReady v = true ↔ (v.dest = .bin ∨ ∃ k i l,
    v.dest = .lane k i ∧ v.index = .done ∧ s.hand.lanes[k]? = some l ∧ l.state ≠ .jammed) := by
  unfold State.placeReady State.lane
  cases v.dest with
  | bin => simp
  | lane k i => cases hl : s.hand.lanes[k]? <;> simp [hl]

/-- The PLACE of an IN_TRANSIT board is written once it is due; a lane PLACE opens the window (R136, R137). -/
theorem writePlace_writes {v : Service} (hv : s.hand.service = some v) (running : s.running = true)
    (order : s.hand.picker.order = none) (serving : s.hand.picker.state = .serving) (window : v.window = none)
    (torn : v.torn = false) (moving : s.servedState v = some .inTransit) (ready : s.placeReady v = true) :
    ((writePlace s).node .picker).order = .place v.panel v.board v.dest ∧
      ((writePlace s).node .picker).seq = nextSeq (s.node .picker).seq ∧
      (writePlace s).hand.service = some (if v.dest = .bin then v else { v with window := some .opened }) := by
  have due : s.running = true ∧ s.hand.picker.order = none ∧ s.hand.picker.state = .serving ∧ v.window = none :=
    ⟨running, order, serving, window⟩
  unfold writePlace
  simp only [hv]
  rw [if_pos due, if_neg (by simp [torn]), if_pos ⟨moving, ready⟩]
  refine ⟨rfl, rfl, ?_⟩
  rw [State.modService_hand]
  have kept : (writePicker .place (.place v.panel v.board v.dest) s).hand.service = some v := hv
  rw [kept, Option.map_some]
  cases v.dest <;> rfl

/-- The PLACE of a torn board goes to the bin (R134). -/
theorem writePlace_torn {v : Service} (hv : s.hand.service = some v) (running : s.running = true)
    (order : s.hand.picker.order = none) (serving : s.hand.picker.state = .serving) (window : v.window = none)
    (torn : v.torn = true) : writePlace s = writePicker .place (.place v.panel v.board .bin) s := by
  simp [writePlace, hv, running, order, serving, window, torn]

/-- No PLACE is written before it is due (R136). -/
theorem writePlace_waits {v : Service} (hv : s.hand.service = some v)
    (early : ¬ (s.running = true ∧ v.window = none ∧ (v.torn = true ∨ (s.servedState v = some .inTransit ∧ s.placeReady v = true)))) :
    writePlace s = s := by
  unfold writePlace
  simp only [hv]
  split
  · next ready =>
    obtain ⟨running, -, -, window⟩ := ready
    split
    · next torn => exact absurd ⟨running, window, .inl torn⟩ early
    split
    · next due => exact absurd ⟨running, window, .inr due⟩ early
    · rfl
  · rfl

end

/-! ### A torn board -/

/-- A board came off the panel with its release tab not cut through (R134): what is the same whether the picker holds it or not. -/
structure Torn (v : Service) (b : Nat) (p : Panel) (r : Board) (s t : State) : Prop where
  board : t.board .active b = some { r with state := .lost .torn }
  others : ∀ j, j ≠ b → t.board .active j = s.board .active j
  notice : ∀ k, t.notice k = if k = 15 then (s.notice 15).map (NoticeRec.raise (.boardLost p.id b .torn)) else s.notice k
  disp : t.disp = s.disp
  slot : ∀ k i, v.dest = .lane k i → s.slot k i = some .reserved → t.slot k i = some .empty

section
variable {s : State} {v : Service} {b : Nat} {p : Panel} {r : Board}

/-- The loss and the slot of a torn board, before the service is settled. -/
theorem torn_lost (hv : s.hand.service = some v) (hp : s.tracker.active = some p) (hr : s.board .active b = some r)
    (hs : r.state.terminal = false) : ∃ u, releaseSlot s.serviceDest (loseBoard .active b .torn s) = u ∧
      Torn v b p r s u ∧ u.hand.service = some v ∧ u.hand.picker = s.hand.picker ∧ u.ring = s.ring ∧ u.lines = s.lines := by
  have lost := loseBoard_lost .torn (ref := .active) hp hr hs
  set w := loseBoard .active b .torn s
  have service : w.hand.service = some v := by rw [lost.hand]; exact hv
  have dest : s.serviceDest = v.dest := by rw [State.serviceDest, hv]
  obtain ⟨lanes, e, slot⟩ := releaseSlot_eq w v.dest
  have tracker : (releaseSlot v.dest w).tracker = w.tracker := by rw [slot]
  rw [dest]
  refine ⟨_, rfl, ⟨?_, fun j hj => ?_, fun k => ?_, by rw [slot, ← lost.disp], fun k i hd reserved => ?_⟩, by rw [slot]; exact service,
    by rw [slot]; dsimp only; rw [lost.hand], by rw [slot]; exact lost.ring, by rw [slot]; exact lost.lines⟩
  · rw [State.board_congr tracker, lost.board]
  · rw [State.board_congr tracker, lost.others j hj]
  · rw [← lost.notice k, slot]; rfl
  · have before : w.slot k i = s.slot k i := State.slot_congr (by rw [lost.hand]) k i
    exact releaseSlot_slot hd (before.trans reserved)

/-- A torn board that the picker holds (R134): its service goes to the bin, and its PLACE is tried. -/
theorem tornBoard_held (hv : s.hand.service = some v) (hp : s.tracker.active = some p) (hr : s.board .active b = some r)
    (hs : r.state.terminal = false) (order : s.hand.picker.order = none) (serving : s.hand.picker.state = .serving) :
    Torn v b p r s (tornBoard b true s) ∧
    (tornBoard b true s).hand.service = some { v with torn := true, dest := .bin, index := .notNeeded, window := none } ∧
    (s.running = true → ((tornBoard b true s).node .picker).order = .place v.panel v.board .bin ∧
      ((tornBoard b true s).node .picker).seq = nextSeq (s.node .picker).seq) ∧
    (s.running = false → (tornBoard b true s).hand.picker = s.hand.picker) := by
  obtain ⟨u, hu, torn, service, picker, ring, lines⟩ := torn_lost hv hp hr hs
  set w := u.modService fun v => { v with torn := true, dest := .bin, index := .notNeeded, window := none } with hw
  have run : tornBoard b true s = writePlace w := by
    simp only [tornBoard, hu, if_true]
    rfl
  have service' : w.hand.service = some { v with torn := true, dest := .bin, index := .notNeeded, window := none } := by
    rw [hw, State.modService_hand, service]; rfl
  have same : Torn v b p r s w := ⟨torn.board, torn.others, torn.notice, torn.disp, torn.slot⟩
  have running : w.running = s.running := congrArg (fun l => l.causes.isEmpty) lines
  rw [run]
  cases hrun : s.running with
  | false =>
    have waits : writePlace w = w := writePlace_waits service' (by simp [running, hrun])
    rw [waits]
    exact ⟨same, service', nofun, fun _ => picker⟩
  | true =>
    have writes := writePlace_torn service' (running.trans hrun) (by rw [← order]; exact congrArg PickerRec.order picker)
      (by rw [← serving]; exact congrArg PickerRec.state picker) rfl rfl
    have node : w.node .picker = s.node .picker := by simp only [State.node, ← ring]; rfl
    rw [writes, ← node]
    exact ⟨⟨same.board, same.others, same.notice, same.disp, same.slot⟩, service', fun _ => ⟨rfl, rfl⟩, nofun⟩

/-- A torn board that the picker dropped (R132, R134): the service is FREE. -/
theorem tornBoard_dropped (hv : s.hand.service = some v) (hp : s.tracker.active = some p) (hr : s.board .active b = some r)
    (hs : r.state.terminal = false) :
    Torn v b p r s (tornBoard b false s) ∧ (tornBoard b false s).hand.service = none := by
  obtain ⟨u, hu, torn, service, -⟩ := torn_lost hv hp hr hs
  have run : tornBoard b false s = freeService (releaseContingency u) := by
    simp only [tornBoard, hu, if_neg Bool.false_ne_true]
  have hand := releaseContingency_hand u service
  obtain ⟨-, notices, -⟩ := releaseContingency_rest u
  obtain ⟨tracker, disp, -⟩ := releaseContingency_frame u
  obtain ⟨tracker', disp', -, notices', -, -, -, free, tables, -⟩ := freeService_rest (releaseContingency u)
  rw [run]
  refine ⟨⟨?_, fun j hj => ?_, fun k => ?_, disp'.trans (disp.trans torn.disp), fun k i hd reserved => ?_⟩, free⟩
  · rw [State.board_congr (tracker'.trans tracker), torn.board]
  · rw [State.board_congr (tracker'.trans tracker), torn.others j hj]
  · rw [State.notice, notices', notices, ← torn.notice k, State.notice]
  · have lanes : (freeService (releaseContingency u)).hand.lanes = u.hand.lanes := by
      rw [Handover.lanes_of_tables tables, hand]
    rw [State.slot_congr lanes, torn.slot k i hd reserved]

end

end Sys2Proof.Machine
end

section
/-! The ends of the picker's orders (R126 to R139), each as the obligation on placements reads it. -/

namespace Sys2Proof.Machine

/-- The picker's outstanding order serves board `v.board`, r, of the active panel p, and no RETRACT waits. -/
structure ServesBoard (v : Service) (r : Board) (p : Panel) (s : State) : Prop where
  serving : s.hand.picker.state = .serving
  service : s.hand.service = some v
  due : s.hand.picker.retractDue = false
  active : s.tracker.active = some p
  panel : p.id = v.panel
  board : s.board .active v.board = some r

/-- The picker is free of its order, and serves on. -/
def State.orderEnded (s t : State) : Prop := t.hand.picker = { s.hand.picker with order := none, timer := none }

/-- The picker is IDLE and its service FREE. -/
def State.serviceEnded (s t : State) : Prop := t.hand.service = none ∧
  t.hand.picker = { s.hand.picker with state := .idle, order := none, timer := none }

/-- The destination's slot goes from one state to another. -/
def State.slotMoves (v : Service) (was now : SlotState) (s t : State) : Prop :=
  ∀ k i, v.dest = .lane k i → s.slot k i = some was → t.slot k i = some now

/-- The board of the service is LOST, and reported. -/
def State.servedLost (v : Service) (p : Panel) (why : LostReason) (s t : State) : Prop :=
  t.boardState .active v.board = some (.lost why) ∧
    t.notice 15 = (s.notice 15).map (NoticeRec.raise (.boardLost p.id v.board why))

section
variable {s : State} {v : Service} {r : Board} {p : Panel} (h : ServesBoard v r p s)
include h

theorem ServesBoard.ref : s.panelRef v.panel = some .active := State.panelRef_active h.active h.panel

theorem ServesBoard.id : s.activeId = v.panel := by rw [State.activeId, h.active, ← h.panel]

theorem ServesBoard.state : s.boardState .active v.board = some r.state := State.boardState_of_board h.board

theorem ServesBoard.served : s.servedState v = some r.state := by rw [State.servedState, h.ref]; exact h.state

/-- The end of the picker's order leaves what is served. -/
theorem ServesBoard.ended : ServesBoard v r p (endPickerOrder s) :=
  ⟨h.serving, h.service, h.due, h.active, h.panel, h.board⟩

theorem ServesBoard.freed {u : State} (picker : u.hand.picker = { s.hand.picker with order := none, timer := none }) :
    State.serviceEnded s (freeService u) := by
  have serving : u.hand.picker.state = .serving := by rw [picker]; exact h.serving
  have due : u.hand.picker.retractDue = false := by rw [picker]; exact h.due
  rw [State.serviceEnded, freeService_serving serving due]
  exact ⟨rfl, by rw [askSelect_hand]; dsimp only; rw [picker]⟩

/-! ### PICK -/

/-- A PICK that gripped (R63, R82, R126). -/
theorem pickGripped_grips (hs : r.state = .gripWait) : State.orderEnded s (pickGripped s) ∧
    (pickGripped s).board .active v.board = some { r with state := .gripped } ∧
    ∀ x, s.tab r.releaseTab = some x → x.state = .held → x.settlement = none →
      ((pickGripped s).tab r.releaseTab).map Tab.state = some .queued := by
  set e := endPickerOrder s
  obtain ⟨a, b, written⟩ := setBoardState_tracker e .active v.board .gripped
  have board := setBoardState_self e .gripped h.ended.board
  set u := setBoardState .active v.board .gripped e
  have run : pickGripped s = grant r.releaseTab u := by
    have condition : e.servedState v = some .gripWait ∧ v.panel = e.activeId := ⟨hs ▸ h.ended.served, h.ended.id.symm⟩
    have service : (endPickerOrder s).hand.service = some v := h.ended.service
    simp only [pickGripped, service]
    rw [if_pos condition]
    exact congrArg (fun o => match o with | some r => grant r.releaseTab u | none => u) board
  have granted : (grant r.releaseTab u).tracker = u.tracker := by
    unfold grant
    (repeat' split) <;> first | rfl | exact (putTab_rest ..).1
  obtain ⟨hand, -⟩ := State.blocks_of_bare (grant_bare u r.releaseTab)
  rw [run]
  refine ⟨?_, (State.board_congr granted .active _).trans board, fun x hx held settled => ?_⟩
  · rw [State.orderEnded, hand, written]; rfl
  · have tab : u.tab r.releaseTab = some x := by rw [written]; exact hx
    have queued : grant r.releaseTab u = putTab r.releaseTab (u.assign x) true u := by simp [grant, tab, held, settled]
    rw [queued, putTab_entry tab]
    rfl

/-- A grip that missed, by MISSED or by the RETRACT of a timed-out PICK (R63, R126, R127). -/
theorem pickMissed_misses (hs : r.state = .gripWait) : State.serviceEnded s (pickMissed s) ∧
    State.slotMoves v .reserved .empty s (pickMissed s) ∧
    (r.attempts + 1 < s.param .pickTries →
      (pickMissed s).board .active v.board =
          some { r with attempts := r.attempts + 1, state := .ready, dest := if r.bad then r.dest else none } ∧
        (pickMissed s).tracker.pickQueue = s.tracker.pickQueue ++ [v.board]) ∧
    (s.param .pickTries ≤ r.attempts + 1 → (pickMissed s).boardState .active v.board = some (.retained .pickFailed)) := by
  set e := endPickerOrder s with he
  obtain ⟨lanes, ev, slot⟩ := releaseSlot_eq e v.dest
  set u := releaseSlot v.dest e with hu
  have freed : State.serviceEnded s (freeService u) := h.freed (by rw [slot]; rfl)
  obtain ⟨tracker, -, -, -, -, req, -, -, tables, -⟩ := freeService_rest u
  set w := freeService u
  have tracker : w.tracker = s.tracker := tracker.trans (by rw [slot]; rfl)
  have param : w.param .pickTries = s.param .pickTries := State.param_congr (req.trans (by rw [slot]; rfl)) _
  have moves : ∀ t : State, t.hand.lanes = w.hand.lanes → State.slotMoves v .reserved .empty s t :=
    fun t same k i hd reserved => by
      rw [State.slot_congr (same.trans (Handover.lanes_of_tables tables))]
      exact releaseSlot_slot (s := e) hd reserved
  have run : pickMissed s = missBoard v.board w := by
    have service : e.hand.service = some v := h.service
    simp only [pickMissed, ← he, service]
    rfl
  have waiting : w.boardState .active v.board = some .gripWait := by
    rw [State.boardState_congr tracker, h.state, hs]
  have board : w.board .active v.board = some r := (State.board_congr tracker .active _).trans h.board
  have counted := w.modBoard_self (fun r => { r with attempts := r.attempts + 1 }) board
  obtain ⟨a, b, written⟩ := w.modBoard_tracker .active v.board fun r => { r with attempts := r.attempts + 1 }
  set m := w.modBoard .active v.board fun r => { r with attempts := r.attempts + 1 } with hm
  have miss : missBoard v.board w = if s.param .pickTries ≤ r.attempts + 1 then retain v.board .pickFailed m
      else joinPickBack v.board (m.modBoard .active v.board fun r =>
        { r with state := .ready, dest := if r.bad then r.dest else none }) := by
    have tries : m.param .pickTries = s.param .pickTries := by rw [← param, written]; rfl
    rw [missBoard, if_pos waiting, ← tries]
    simp only [← hm, counted]
  rw [run, miss]
  split
  · next spent =>
    have active : m.tracker.active = some p := by rw [written]; exact (congrArg Tracker.active tracker).trans h.active
    have retains : retain v.board .pickFailed m = retainNow v.board .pickFailed m := by
      simp [retain, State.boardState_of_board counted, hs]
    have free : m.hand.service = none := by rw [written]; exact freed.1
    have hand := (retaining_hand m v.board .pickFailed { r with attempts := r.attempts + 1 }).1
    have retained := retainNow_retained .pickFailed active counted
    rw [retains]
    rw [retainNow_away .pickFailed active counted (.inr free)] at retained ⊢
    refine ⟨?_, moves _ ?_, fun few => absurd spent (by omega), fun _ => retained.boardState⟩
    · rw [State.serviceEnded, hand, written]; exact freed
    · rw [hand, written]
  · next few =>
    obtain ⟨c, d, written'⟩ := m.modBoard_tracker .active v.board fun r =>
      { r with state := .ready, dest := if r.bad then r.dest else none }
    have ready := m.modBoard_self (fun r => { r with state := .ready, dest := if r.bad then r.dest else none }) counted
    refine ⟨?_, moves _ ?_, fun _ => ⟨ready, ?_⟩, fun spent => absurd spent few⟩
    · rw [State.serviceEnded, written', written]; exact freed
    · rw [written', written]; rfl
    · rw [written', written]
      exact congrArg (fun t => t.pickQueue ++ [v.board]) tracker

end

end Sys2Proof.Machine
end

section
/-! The ends of LIFT, STAY and PLACE (R130 to R134, R138, R139), each as the obligation on placements reads it. -/

namespace Sys2Proof.Machine

section
variable {s : State} {v : Service} {r : Board} {p : Panel} (h : ServesBoard v r p s)
include h

/-! ### LIFT -/

/-- A LIFT of a FREE board that completes OK: the board is IN_TRANSIT, and its PLACE is written where it is due (R130, R136). -/
theorem liftOk_moves (hs : r.state = .free) (torn : v.torn = false) :
    (liftOk s).boardState .active v.board = some .inTransit ∧
    (liftOk s).hand.service.map Service.early = some .lifted ∧
    (s.running = true ∧ v.window = none ∧ s.placeReady v = true →
      (((liftOk s).node .picker).order = .place v.panel v.board v.dest ∧
        ((liftOk s).node .picker).seq = nextSeq (s.node .picker).seq) ∧
      (v.dest ≠ .bin → (liftOk s).hand.service.bind Service.window = some .opened)) ∧
    (¬ (s.running = true ∧ v.window = none ∧ s.placeReady v = true) → State.orderEnded s (liftOk s)) := by
  set e := (endPickerOrder s).modService fun v => { v with early := .lifted } with he
  have service : e.hand.service = some { v with early := .lifted } := by rw [he, State.modService_hand]; simp [h.service]
  have moved : moveServed .free .inTransit e = setBoardState .active v.board .inTransit e := by
    have ref : e.panelRef v.panel = some .active := h.ref
    have free : e.boardState .active v.board = some .free := hs ▸ h.state
    simp [moveServed, service, ref, free]
  obtain ⟨a, b, written⟩ := setBoardState_tracker e .active v.board .inTransit
  have board : (setBoardState .active v.board .inTransit e).board .active v.board = some { r with state := .inTransit } :=
    setBoardState_self e .inTransit (show e.board .active v.board = some r from h.board)
  have run : liftOk s = writePlace (setBoardState .active v.board .inTransit e) := congrArg writePlace moved
  set u := setBoardState .active v.board .inTransit e
  have service' : u.hand.service = some { v with early := .lifted } := by rw [written]; exact service
  have ref : u.panelRef v.panel = some .active := State.panelRef_active (by rw [written]; exact h.active) h.panel
  have served : u.servedState { v with early := .lifted } = some .inTransit := by
    rw [State.servedState, ref]
    exact State.boardState_of_board board
  have ready : u.placeReady { v with early := .lifted } = s.placeReady v := by rw [written]; rfl
  have running : u.running = s.running := by rw [written]; rfl
  have node : u.node .picker = s.node .picker := by rw [written]; rfl
  have state : (writePlace u).boardState .active v.board = some .inTransit :=
    (State.boardState_congr (writePlace_frame u).1 .active _).trans (State.boardState_of_board board)
  rw [run]
  by_cases due : s.running = true ∧ v.window = none ∧ s.placeReady v = true
  · obtain ⟨run, window, place⟩ := due
    obtain ⟨order, seq, opened⟩ := writePlace_writes service' (running.trans run) (by rw [written]; rfl)
      (by rw [written]; exact h.serving) window torn served (ready.trans place)
    rw [node] at seq
    refine ⟨state, ?_, fun _ => ⟨⟨order, seq⟩, fun lane => ?_⟩, fun not => absurd ⟨run, window, place⟩ not⟩
    · rw [opened]; dsimp only; split <;> rfl
    · rw [opened, if_neg lane]; rfl
  · have waits : writePlace u = u := writePlace_waits service' fun ⟨runs, window, place⟩ => by
      rcases place with torn' | ⟨-, place⟩
      · exact absurd (torn.symm.trans torn') Bool.false_ne_true
      · exact due ⟨running ▸ runs, window, ready ▸ place⟩
    rw [waits] at state ⊢
    exact ⟨state, by rw [service']; rfl, fun d => absurd d due, fun _ => by rw [State.orderEnded, written]; rfl⟩

/-- A LIFT of a RELEASING board that completes OK waits for the cut (R130). -/
theorem liftOk_waits (hs : r.state = .releasing) (torn : v.torn = false) : State.orderEnded s (liftOk s) ∧
    (liftOk s).boardState .active v.board = some .releasing ∧
    (liftOk s).hand.service.map Service.early = some .lifted := by
  set e := (endPickerOrder s).modService fun v => { v with early := .lifted } with he
  have service : e.hand.service = some { v with early := .lifted } := by rw [he, State.modService_hand]; simp [h.service]
  have ref : e.panelRef v.panel = some .active := h.ref
  have state : e.boardState .active v.board = some .releasing := hs ▸ h.state
  have kept : moveServed .free .inTransit e = e := by simp [moveServed, service, ref, state]
  have served : e.servedState { v with early := .lifted } = some .releasing := by rw [State.servedState, ref]; exact state
  have waits : writePlace e = e := writePlace_waits service fun ⟨_, _, place⟩ => by
    rcases place with torn' | ⟨moving, -⟩
    · exact absurd (torn.symm.trans torn') Bool.false_ne_true
    · exact absurd (served.symm.trans moving) nofun
  have run : liftOk s = e := (congrArg writePlace kept).trans waits
  rw [run]
  exact ⟨rfl, state, by rw [service]; rfl⟩

/-- A LIFT of a FREE board that completes DROPPED loses it (R65, R130). -/
theorem liftDropped_loses (hs : r.state = .free) : State.serviceEnded s (liftDropped s) ∧
    State.slotMoves v .reserved .empty s (liftDropped s) ∧ State.servedLost v p .dropped s (liftDropped s) := by
  set e := endPickerOrder s with he
  have lost := loseBoard_lost .dropped (ref := .active) h.ended.active h.ended.board (by rw [hs]; rfl)
  set w := loseBoard .active v.board .dropped e
  have run : liftDropped s = freeService (releaseSlot v.dest w) := by
    have service : e.hand.service = some v := h.service
    have served : ¬ e.servedState v = some .releasing := fun c =>
      absurd (h.ended.served.symm.trans c) (by simp [hs])
    have ref : e.panelRef v.panel = some .active := h.ref
    have state : e.boardState .active v.board = some .free := hs ▸ h.state
    have dest : e.serviceDest = v.dest := by rw [State.serviceDest, service]
    simp only [liftDropped, ← he, service]
    rw [if_neg served]
    simp only [ref]
    rw [if_pos state, dropLifted, dest]
  obtain ⟨lanes, ev, slot⟩ := releaseSlot_eq w v.dest
  have before (k i : Nat) : w.slot k i = s.slot k i := State.slot_congr (by rw [lost.hand]; rfl) k i
  have freed : State.serviceEnded s (freeService (releaseSlot v.dest w)) := h.freed (by rw [slot]; dsimp only; rw [lost.hand]; rfl)
  obtain ⟨tracker, -, -, notices, -, -, -, -, tables, -⟩ := freeService_rest (releaseSlot v.dest w)
  rw [run]
  refine ⟨freed, fun k i hd reserved => ?_, ?_, ?_⟩
  · rw [State.slot_congr (Handover.lanes_of_tables tables)]
    exact releaseSlot_slot hd ((before k i).trans reserved)
  · have same : (freeService (releaseSlot v.dest w)).tracker = w.tracker := tracker.trans (by rw [slot])
    rw [State.boardState_congr same, State.boardState_of_board lost.board]
  · rw [State.notice, notices, slot]
    exact lost.notice 15

/-- A LIFT of a RELEASING board that completes DROPPED waits for the cut (R130, R132). -/
theorem liftDropped_waits (hs : r.state = .releasing) : State.orderEnded s (liftDropped s) ∧
    (liftDropped s).boardState .active v.board = some .releasing ∧
    (liftDropped s).hand.service.map Service.early = some .dropped := by
  have service : (endPickerOrder s).hand.service = some v := h.service
  have run : liftDropped s = (endPickerOrder s).modService fun v => { v with early := .dropped } := by
    have served := h.ended.served
    rw [hs] at served
    simp [liftDropped, h.service, served]
  have state : s.boardState .active v.board = some .releasing := hs ▸ h.state
  rw [run]
  exact ⟨rfl, state, by rw [State.modService_hand]; simp [h.service]⟩

/-! ### PLACE -/

/-- What a PLACE of a torn board leaves (R134). -/
theorem placeOk_torn (torn : v.torn = true) : State.serviceEnded s (placeOk s) ∧
    (0 < s.hand.binReserved → (placeOk s).hand.binReserved = s.hand.binReserved - 1 ∧
      (placeOk s).hand.binFilled = s.hand.binFilled + 1) ∧ (placeOk s).tracker = s.tracker := by
  set e := (endPickerOrder s).modService fun v => { v with contingency := false } with he
  have run : placeOk s = freeService (fillBin e) := by simp [placeOk, h.service, torn, he]
  have filled : fillBin e = e ∨ (fillBin e) = { e with
      hand := { e.hand with binReserved := e.hand.binReserved - 1, binFilled := e.hand.binFilled + 1 } } := by
    unfold fillBin; split <;> simp
  have freed : State.serviceEnded s (freeService (fillBin e)) := h.freed (by rcases filled with f | f <;> rw [f] <;> rfl)
  obtain ⟨tracker, -, -, -, -, -, -, -, tables, -⟩ := freeService_rest (fillBin e)
  rw [run]
  refine ⟨freed, fun pos => ?_, ?_⟩
  · have fill : fillBin e = { e with
        hand := { e.hand with binReserved := e.hand.binReserved - 1, binFilled := e.hand.binFilled + 1 } } :=
      if_neg (Nat.pos_iff_ne_zero.1 pos)
    obtain ⟨-, bin⟩ := Prod.mk.inj tables
    obtain ⟨filled, reserved⟩ := Prod.mk.inj bin
    exact ⟨by rw [reserved, fill]; rfl, by rw [filled, fill]; rfl⟩
  · rw [tracker]
    rcases filled with f | f <;> rw [f] <;> rfl

/-- A PLACE into the bin that completes OK (R134, R138). -/
theorem placeOk_bins (torn : v.torn = false) (dest : v.dest = .bin) (hs : r.state = .inTransit) :
    State.serviceEnded s (placeOk s) ∧ (placeOk s).boardState .active v.board = some .binned ∧
    (placeOk s).tracker.active = some { p with tally := { p.tally with binned := p.tally.binned + 1 } } ∧
    (0 < s.hand.binReserved → (placeOk s).hand.binReserved = s.hand.binReserved - 1 ∧
      (placeOk s).hand.binFilled = s.hand.binFilled + 1) := by
  set e := endPickerOrder s with he
  have service : e.hand.service = some v := h.service
  have finished : finishServed .binned Panel.countBinned e =
      (setBoardState .active v.board .binned e).modPanel .active Panel.countBinned := by
    have ref : e.panelRef v.panel = some .active := h.ref
    have state : e.boardState .active v.board = some .inTransit := hs ▸ h.state
    simp only [finishServed, service, ref]
    rw [if_pos state]
  obtain ⟨a, b, written⟩ := setBoardState_tracker e .active v.board .binned
  have board : (setBoardState .active v.board .binned e).board .active v.board = some { r with state := .binned } :=
    setBoardState_self e .binned h.ended.board
  set u := (setBoardState .active v.board .binned e).modPanel .active Panel.countBinned with hu
  have board : u.board .active v.board = some { r with state := .binned } :=
    (State.modPanel_board _ .active .active (f := Panel.countBinned) (fun _ => rfl) _).trans board
  have active : u.tracker.active = some p.countBinned := by
    rw [hu, written, ← Option.map_some, ← h.active]
    rfl
  have hand : u.hand = e.hand := by rw [hu, written]; rfl
  have run : placeOk s = freeService (fillBin u) := by
    simp only [placeOk, ← he, service, torn, dest, finished]
    rfl
  have same : (fillBin u).tracker = u.tracker ∧ (fillBin u).hand.picker = u.hand.picker := by
    unfold fillBin; split <;> exact ⟨rfl, rfl⟩
  have freed : State.serviceEnded s (freeService (fillBin u)) := h.freed (by rw [same.2, hand]; rfl)
  obtain ⟨tracker, -, -, -, -, -, -, -, tables, -⟩ := freeService_rest (fillBin u)
  rw [run]
  refine ⟨freed, ?_, by rw [tracker, same.1, active]; rfl, fun pos => ?_⟩
  · rw [State.boardState_congr (tracker.trans same.1), State.boardState_of_board board]
  · have fill : fillBin u = { u with
        hand := { u.hand with binReserved := u.hand.binReserved - 1, binFilled := u.hand.binFilled + 1 } } :=
      if_neg (by rw [hand]; exact Nat.pos_iff_ne_zero.1 pos)
    obtain ⟨-, bin⟩ := Prod.mk.inj tables
    obtain ⟨filled, reserved⟩ := Prod.mk.inj bin
    exact ⟨by rw [reserved, fill]; dsimp only; rw [hand]; rfl, by rw [filled, fill]; dsimp only; rw [hand]; rfl⟩

/-- A lane PLACE that completes OK: its window closes, or had ended (R137, R139). -/
theorem placeOk_lane (torn : v.torn = false) (dest : v.dest ≠ .bin) :
    (v.window = some .opened → State.orderEnded s (placeOk s) ∧
      (placeOk s).hand.service = some { v with window := some (.closing (s.param .placeConfirm)) }) ∧
    (v.window = none → State.serviceEnded s (placeOk s)) := by
  have service : (endPickerOrder s).hand.service = some v := h.service
  obtain ⟨k, i, lane⟩ : ∃ k i, v.dest = .lane k i := by
    cases hd : v.dest with
    | bin => exact absurd hd dest
    | lane k i => exact ⟨k, i, rfl⟩
  refine ⟨fun window => ?_, fun window => ?_⟩
  · have run : placeOk s =
        (endPickerOrder s).modService fun v => { v with window := some (.closing (s.param .placeConfirm)) } := by
      simp only [placeOk, service, torn, lane, window]
      rfl
    rw [run]
    exact ⟨rfl, by rw [State.modService_hand, service]; rfl⟩
  · have run : placeOk s = freeService (endPickerOrder s) := by
      simp only [placeOk, service, torn, lane, window]
      rfl
    rw [run]
    exact h.freed rfl

/-- A PLACE of a torn board that completes DROPPED (R134). -/
theorem placeDropped_torn (torn : v.torn = true) : State.serviceEnded s (placeDropped s) ∧
    (placeDropped s).tracker = s.tracker ∧
    (placeDropped s).hand.binReserved = s.hand.binReserved - (if v.contingency then 1 else 0) ∧
    (placeDropped s).hand.binFilled = s.hand.binFilled := by
  have service : (endPickerOrder s).hand.service = some v := h.service
  have run : placeDropped s = freeService (releaseContingency (endPickerOrder s)) := by
    simp only [placeDropped, service, torn]
    rfl
  have hand := releaseContingency_hand _ service
  have freed : State.serviceEnded s (freeService (releaseContingency (endPickerOrder s))) := h.freed (by rw [hand]; rfl)
  obtain ⟨tracker, -, -, -, -, -, -, -, tables, -⟩ := freeService_rest (releaseContingency (endPickerOrder s))
  obtain ⟨-, bin⟩ := Prod.mk.inj tables
  obtain ⟨filled, reserved⟩ := Prod.mk.inj bin
  rw [run]
  exact ⟨freed, tracker.trans (releaseContingency_frame _).1, by rw [reserved, hand]; rfl, by rw [filled, hand]; rfl⟩

/-- A PLACE that completes DROPPED loses its board (R137, R138). -/
theorem placeDropped_loses (torn : v.torn = false) (hs : r.state = .inTransit) :
    (v.dest = .bin ∨ v.window.isSome = true → State.serviceEnded s (placeDropped s) ∧
      State.servedLost v p .dropped s (placeDropped s) ∧ State.slotMoves v .reserved .suspect s (placeDropped s)) ∧
    (v.dest ≠ .bin → v.window = none → State.serviceEnded s (placeDropped s)) := by
  set e := endPickerOrder s with he
  have service : e.hand.service = some v := h.service
  have loses : loseServed .dropped e = loseBoard .active v.board .dropped e := by
    have ref : e.panelRef v.panel = some .active := h.ref
    simp only [loseServed, service, ref]
  have lost := loseBoard_lost .dropped (ref := .active) h.ended.active h.ended.board (by rw [hs]; rfl)
  set w := loseBoard .active v.board .dropped e
  obtain ⟨lanes, slot⟩ := suspectSlot_eq w v.dest
  have before (k i : Nat) : w.slot k i = s.slot k i := State.slot_congr (by rw [lost.hand]; rfl) k i
  have freed : State.serviceEnded s (freeService (suspectSlot v.dest w)) :=
    h.freed (by rw [slot]; dsimp only; rw [lost.hand]; rfl)
  obtain ⟨tracker, -, -, notices, -, -, -, -, tables, -⟩ := freeService_rest (suspectSlot v.dest w)
  have same : (freeService (suspectSlot v.dest w)).tracker = w.tracker := tracker.trans (by rw [slot])
  refine ⟨fun held => ?_, fun lane window => ?_⟩
  · have run : placeDropped s = freeService (suspectSlot v.dest w) := by
      cases hd : v.dest with
      | bin =>
        have bin : suspectSlot .bin w = w := rfl
        simp only [placeDropped, ← he, service, torn, hd, loses, bin]
        rfl
      | lane k i =>
        obtain ⟨c, hc⟩ := Option.isSome_iff_exists.1 (held.resolve_left (by simp [hd]))
        simp only [placeDropped, ← he, service, torn, hd, hc, loses]
        rfl
    rw [run]
    refine ⟨freed, ⟨?_, ?_⟩, fun k i hd reserved => ?_⟩
    · rw [State.boardState_congr same, State.boardState_of_board lost.board]
    · rw [State.notice, notices, slot]
      exact lost.notice 15
    · rw [State.slot_congr (Handover.lanes_of_tables tables)]
      exact suspectSlot_slot hd ((before k i).trans reserved)
  · have run : placeDropped s = freeService e := by
      cases hd : v.dest with
      | bin => exact absurd hd lane
      | lane k i =>
        simp only [placeDropped, ← he, service, torn, hd, window]
        rfl
    rw [run]
    exact h.freed rfl

/-! ### STAY -/

/-- The release tab that the service's board waits for. -/
theorem ServesBoard.release : s.servedRelease = some r.releaseTab := by
  simp [State.servedRelease, h.service, h.id, h.board]

/-- A STAY that completes ALREADY_LIFTED tears the board (R133, R134). -/
theorem stayLifted_tears (hs : r.state = .releasing) {x : Tab} (hx : s.tab r.releaseTab = some x) :
    ((stayLifted s).tab r.releaseTab).map Tab.state = some .skipped ∧ State.servedLost v p .torn s (stayLifted s) ∧
    State.slotMoves v .reserved .empty s (stayLifted s) ∧
    (stayLifted s).hand.service = some { v with torn := true, dest := .bin, index := .notNeeded, window := none } ∧
    (s.running = true → ((stayLifted s).node .picker).order = .place v.panel v.board .bin ∧
      ((stayLifted s).node .picker).seq = nextSeq (s.node .picker).seq) ∧
    (s.running = false → State.orderEnded s (stayLifted s)) := by
  set e := endPickerOrder s with he
  have tab : e.tab r.releaseTab = some x := hx
  have skipped := markSkipped_tab .withdrawn tab
  obtain ⟨n, -, board⟩ := markSkipped_owner (i := r.releaseTab) .withdrawn h.ended.board
  obtain ⟨hand, ring, notices, lines, -⟩ := State.blocks_of_bare (markSkipped_bare e r.releaseTab .withdrawn)
  have active : (markSkipped r.releaseTab .withdrawn e).tracker.active = some p :=
    (markSkipped_active .withdrawn e).trans h.active
  set w := markSkipped r.releaseTab .withdrawn e
  have run : stayLifted s = tornBoard v.board true w := by
    have service : e.hand.service = some v := h.service
    have release : e.servedRelease = some r.releaseTab := h.ended.release
    simp only [stayLifted, ← he, service, release]
    rfl
  obtain ⟨torn, service, writes, waits⟩ := tornBoard_held (by rw [hand]; exact h.service) active board
    (by dsimp only; rw [hs]; rfl) (by rw [hand]; rfl) (by rw [hand]; exact h.serving)
  have running : w.running = s.running := congrArg (fun l => l.causes.isEmpty) lines
  have node : w.node .picker = s.node .picker := by simp only [State.node, ring]; rfl
  have told : w.notice 15 = s.notice 15 := by rw [State.notice, notices]; rfl
  rw [run]
  refine ⟨?_, ⟨State.boardState_of_board torn.board, ?_⟩, fun k i hd reserved => ?_, service, fun run => ?_, fun held => ?_⟩
  · rw [State.tab, torn.disp, ← State.tab, skipped]; rfl
  · rw [← told]; exact torn.notice 15
  · exact torn.slot k i hd ((State.slot_congr (s := e) (congrArg Handover.lanes hand) k i).trans reserved)
  · rw [← node]; exact writes (running.trans run)
  · rw [State.orderEnded, waits (running.trans held), hand]; rfl

/-- The state in which a STAY that completes HELD settles the pending release tab (R133). -/
def stayReleased (i : Nat) (s : State) : State :=
  ((releaseContingency (endPickerOrder s)).modService fun v => { v with early := .none }).modTab i fun t =>
    { t with settlement := none }

/-- What of the state the settling starts from. -/
theorem ServesBoard.stayHeld_settles {x : Tab} {q : Settlement} (hx : s.tab r.releaseTab = some x) (hq : x.settlement = some q) :
    let u := stayReleased r.releaseTab s
    stayHeld s = settleRelease q.head q.stopped q.how r.releaseTab u ∧ u.tab r.releaseTab = some { x with settlement := none } ∧
      u.tracker = s.tracker ∧ u.notices = s.notices ∧ u.running = s.running ∧ u.req = s.req ∧
      u.node .picker = s.node .picker ∧
      u.hand = { s.hand with
        picker := { s.hand.picker with order := none, timer := none }
        service := some { v with early := .none, contingency := false }
        binReserved := s.hand.binReserved - (if v.contingency then 1 else 0) } := by
  set e := releaseContingency (endPickerOrder s) with he
  have hand := releaseContingency_hand _ (show (endPickerOrder s).hand.service = some v from h.service)
  obtain ⟨ring, notices, lines, -, -, req⟩ := releaseContingency_rest (endPickerOrder s)
  obtain ⟨tracker, disp, -⟩ := releaseContingency_frame (endPickerOrder s)
  have tracker : e.tracker = s.tracker := tracker
  have disp : e.disp = s.disp := disp
  set w := e.modService fun v => { v with early := .none } with hw
  have whand : w.hand = { s.hand with
      picker := { s.hand.picker with order := none, timer := none }
      service := some { v with early := .none, contingency := false }
      binReserved := s.hand.binReserved - (if v.contingency then 1 else 0) } := by
    rw [hw, State.modService_hand, hand]
    rfl
  have tab : w.tab r.releaseTab = some x := (congrArg (fun d => d.tabs[r.releaseTab]?) disp).trans hx
  have release : w.servedRelease = some r.releaseTab := by
    have id : w.activeId = v.panel := (State.activeId_congr tracker).trans h.id
    have board : w.board .active v.board = some r := (State.board_congr tracker .active _).trans h.board
    simp [State.servedRelease, whand, id, board]
  have run : stayHeld s = settleRelease q.head q.stopped q.how r.releaseTab (stayReleased r.releaseTab s) := by
    unfold stayHeld
    simp only [← he, ← hw, release, tab, hq]
    rfl
  refine ⟨run, ?_, tracker, notices, congrArg (fun l => l.causes.isEmpty) lines, req, ?_, whand⟩
  · have settled := State.modTab_tab w r.releaseTab r.releaseTab fun t => { t with settlement := none }
    rw [if_pos rfl, tab] at settled
    exact settled
  · exact congrArg (fun x => x.nodes.picker) ring

/-- A STAY that completes HELD settles the tab by the last rows of R94 (R133). -/
theorem stayHeld_holds (hs : r.state = .releasing) {x : Tab} {q : Settlement} (hx : s.tab r.releaseTab = some x)
    (hq : x.settlement = some q) (owner : x.owner = v.board) :
    ((stayHeld s).tab r.releaseTab).map Tab.settlement = some none ∧
    (p.abort.isSome = true → ((stayHeld s).tab r.releaseTab).map Tab.state = some .skipped ∧
      (stayHeld s).boardState .active v.board = some (.retained .aborted) ∧ (stayHeld s).hand.service = none ∧
      (s.running = true → ((stayHeld s).node .picker).order = .retract ∧
        ((stayHeld s).node .picker).seq = nextSeq (s.node .picker).seq)) ∧
    (p.abort = none → s.param .maxAttempts ≤ x.attempts → ((stayHeld s).tab r.releaseTab).map Tab.state = some .failed ∧
      (stayHeld s).boardState .active v.board = some (.retained .tabFailed) ∧ (stayHeld s).hand.service = none ∧
      (stayHeld s).notice 7 = (s.notice 7).map (NoticeRec.raise (.tabFailed p.id r.releaseTab q.how))) ∧
    (p.abort = none → x.attempts < s.param .maxAttempts → ((stayHeld s).tab r.releaseTab).map Tab.state = some .queued ∧
      (stayHeld s).boardState .active v.board = some .gripped ∧
      (stayHeld s).hand.service = some { v with early := .none, contingency := false } ∧
      (stayHeld s).hand.binReserved = s.hand.binReserved - (if v.contingency then 1 else 0)) := by
  obtain ⟨run, tab, tracker, notices, running, req, node, hand⟩ := h.stayHeld_settles hx hq
  set i := r.releaseTab
  set u := stayReleased i s
  rw [run]
  have active : u.tracker.active = some p := (congrArg Tracker.active tracker).trans h.active
  have board : u.board .active x.owner = some r := by
    rw [State.board_congr tracker, owner]
    exact h.board
  have tries : u.param .maxAttempts = s.param .maxAttempts := State.param_congr req _
  have picker : r.state.atPicker = true := by rw [hs]; rfl
  have aborts (mark : p.abort.isSome = true) :
      (settleRelease q.head q.stopped q.how i u).tab i = some (Tab.skipped .withdrawn { x with settlement := none }) ∧
      (settleRelease q.head q.stopped q.how i u).boardState .active v.board = some (.retained .aborted) ∧
      (settleRelease q.head q.stopped q.how i u).hand.service = none ∧
      (s.running = true → ((settleRelease q.head q.stopped q.how i u).node .picker).order = .retract ∧
        ((settleRelease q.head q.stopped q.how i u).node .picker).seq = nextSeq (s.node .picker).seq) := by
    obtain ⟨n, -, marked, settles⟩ := settleRelease_aborted q.head q.stopped q.how tab active mark board hs
    have bare := markSkipped_bare u i .withdrawn
    obtain ⟨hand', ring', -, lines', -⟩ := State.blocks_of_bare bare
    have active' := (markSkipped_active .withdrawn u (i := i)).trans active
    have retained := retainNow_retained .aborted active' marked
    obtain ⟨free, retract⟩ := retainNow_frees .aborted active' marked picker (v := { v with early := .none, contingency := false })
      (by rw [hand', hand]) h.panel.symm owner.symm (by rw [hand', hand])
    rw [settles]
    refine ⟨retained.tab_over (markSkipped_tab .withdrawn tab) (.inr (.inl rfl)), by rw [← owner]; exact retained.boardState,
      free, fun run => ?_⟩
    obtain ⟨order, seq⟩ := retract ((congrArg (fun l => l.causes.isEmpty) lines').trans (running.trans run))
    refine ⟨order, seq.trans ?_⟩
    rw [← node]
    exact congrArg nextSeq (congrArg (fun x => x.nodes.picker.seq) ring')
  have fails (mark : p.abort = none) (spent : s.param .maxAttempts ≤ x.attempts) :
      (settleRelease q.head q.stopped q.how i u).tab i = some ({ x with settlement := none } : Tab).failed ∧
      (settleRelease q.head q.stopped q.how i u).boardState .active v.board = some (.retained .tabFailed) ∧
      (settleRelease q.head q.stopped q.how i u).hand.service = none ∧
      (settleRelease q.head q.stopped q.how i u).notice 7 =
        (s.notice 7).map (NoticeRec.raise (.tabFailed p.id i q.how)) := by
    have failed : (u.modTab i Tab.failed).tab i = some ({ x with settlement := none } : Tab).failed := by
      rw [State.modTab_tab, if_pos rfl, tab]; rfl
    have retained := retainNow_retained (s := u.modTab i Tab.failed) .tabFailed active board
    obtain ⟨free, -⟩ := retainNow_frees (s := u.modTab i Tab.failed) .tabFailed active board picker
      (v := { v with early := .none, contingency := false }) (by rw [State.modTab_hand, hand]) h.panel.symm owner.symm
      (by rw [State.modTab_hand, hand])
    rw [settleRelease_failed q.head q.stopped q.how tab active mark (tries.trans_le spent) board hs]
    refine ⟨retained.tab_over failed (.inr (.inr rfl)), by rw [← owner]; exact retained.boardState, free, ?_⟩
    refine (raise_notice_once _ _ 7).trans ((if_pos rfl).trans ?_)
    rw [State.notice, retained.notices, State.modTab_notices, notices]
    rfl
  have again (mark : p.abort = none) (few : x.attempts < s.param .maxAttempts) : ∃ place,
      (settleRelease q.head q.stopped q.how i u).tab i = some (({ x with settlement := none } : Tab).queuedIn place) ∧
      (settleRelease q.head q.stopped q.how i u).boardState .active v.board = some .gripped ∧
      (settleRelease q.head q.stopped q.how i u).hand = u.hand := by
    rw [settleRelease_again q.head q.stopped q.how tab active mark (few.trans_eq tries.symm) board hs]
    obtain ⟨a, b, written⟩ := setBoardState_tracker u .active x.owner .gripped
    have gripped := setBoardState_self u .gripped board
    set w := setBoardState .active x.owner .gripped u
    have tab' : w.tab i = some { x with settlement := none } := by rw [written]; exact tab
    obtain ⟨place, e, put⟩ := requeue_puts q.head q.stopped tab'
    obtain ⟨tracker', hand', -⟩ := putTab_rest i place true { w with ev := e }
    refine ⟨place, by rw [put]; exact putTab_entry tab', ?_, by rw [put, hand', written]⟩
    rw [put, State.boardState_congr tracker', ← owner]
    exact State.boardState_of_board gripped
  refine ⟨?_, fun mark => ?_, fun mark spent => ?_, fun mark few => ?_⟩
  · rcases h : p.abort with _ | a
    · rcases Nat.lt_or_ge x.attempts (s.param .maxAttempts) with few | spent
      · obtain ⟨place, queued, -⟩ := again h few
        rw [queued]; rfl
      · rw [(fails h spent).1]; rfl
    · rw [(aborts (by rw [h]; rfl)).1]; rfl
  · obtain ⟨skipped, rest⟩ := aborts mark
    exact ⟨by rw [skipped]; rfl, rest⟩
  · obtain ⟨failed, rest⟩ := fails mark spent
    exact ⟨by rw [failed]; rfl, rest⟩
  · obtain ⟨place, queued, gripped, kept⟩ := again mark few
    exact ⟨by rw [queued]; rfl, gripped, by rw [kept, hand], by rw [kept, hand]⟩

end

end Sys2Proof.Machine
end

section
/-! The close of an event for the boards, the panels and the lanes (R48, R50, R85, R123), and the end of a placement's window
(R137). -/

namespace Sys2Proof.Machine

/-! ### What an event's close leaves -/

section
variable {s : State}

/-- The state in which an event's close tries a selection. -/
def closingPoint (s : State) : State := writeDue (testClose (testDone s))

theorem settle_eq (s : State) : settle s = clearMarks (runArbiter (selectIfAsked (closingPoint s))) := rfl

/-- What of the tracker an event's close has tested, before the arbiter and the selection work on its boards. -/
theorem settle_tracker (s : State) : (settle s).tracker = { (testClose (testDone s)).tracker with
    half0 := (settle s).tracker.half0, half1 := (settle s).tracker.half1
    pickQueue := (settle s).tracker.pickQueue } := by
  have arb := (runArbiter_arbitrated (selectIfAsked (closingPoint s))).tracker
  have sel := (selectIfAsked_selected (closingPoint s)).tracker
  have due : (closingPoint s).tracker = (testClose (testDone s)).tracker := (writeDue_frame _).1
  rw [due] at sel
  rw [sel] at arb
  rw [settle_eq, clearMarks_tracker]
  rw [arb]

/-- A board of a half stays as it is to the end of an event, unless it is GRIPPED, waits in the pick queue of that half's active
panel, or the closing panel holds the half. -/
theorem settle_half {h : Half} {j : Nat} {r : Board} (hr : (s.half h)[j]? = some r) (state : r.state ≠ .gripped)
    (out : ∀ p, s.tracker.active = some p → p.half = h → j ∉ s.tracker.pickQueue)
    (apart : s.inTransit .closing = true ∨ ∀ c, s.tracker.closing = some c → c.half ≠ h) :
    ((settle s).half h)[j]? = some r := by
  have kept : (testClose (testDone s)).half h = s.half h := by
    rcases apart with moving | apart
    · have waits : (testDone s).inTransit .closing = true := by
        have same : (testDone s).boards .closing = s.boards .closing := by
          have panel : (testDone s).panel .closing = s.panel .closing := (testDone_frame s).1
          simp only [State.boards, panel, testDone_half]
        rw [State.inTransit, same]
        exact moving
      rw [testClose_waits _ (.inr waits), testDone_half]
    · rw [State.half_eq, testClose_half _ _ (by rw [(testDone_frame s).1]; exact apart), ← State.half_eq, testDone_half]
  obtain ⟨f, hf, done⟩ := testDone_active s
  have active : (closingPoint s).tracker.active = s.tracker.active.map f := by
    rw [closingPoint, (writeDue_frame _).1, (testClose_frame _).1, done]
  have queue : (closingPoint s).tracker.pickQueue = s.tracker.pickQueue := by
    rw [closingPoint, (writeDue_frame _).1]; simp
  have due : (closingPoint s).half h = s.half h := by
    rw [← kept, State.half_eq, State.half_eq, closingPoint, (writeDue_frame _).1]
  have selected := (selectIfAsked_selected (closingPoint s)).boards h j r (by rw [due, hr]) fun q hq hh => by
    rw [active] at hq
    obtain ⟨p, hp, rfl⟩ := Option.map_eq_some_iff.1 hq
    rw [queue]
    exact out p hp ((hf p).2.2.symm.trans hh)
  have arbitrated := (runArbiter_arbitrated (selectIfAsked (closingPoint s))).boards h j r selected state
  rw [settle_eq]
  cases h <;> exact arbitrated

/-- The active panel's id, half and tally stay to the end of the event. -/
theorem settle_activePanel (s : State) : ∃ f : Panel → Panel, (∀ p, (f p).id = p.id ∧ (f p).tally = p.tally ∧ (f p).half = p.half) ∧
    (settle s).tracker.active = s.tracker.active.map f := by
  obtain ⟨f, hf, done⟩ := testDone_active s
  exact ⟨f, hf, by rw [settle_tracker]; exact (testClose_frame _).1.trans done⟩

/-- A board of the active panel that no selection can take, to the end of the event. -/
theorem settle_board_active {p : Panel} {j : Nat} {r : Board} (hp : s.tracker.active = some p)
    (apart : ∀ c, s.tracker.closing = some c → c.half ≠ p.half) (hr : s.board .active j = some r)
    (state : r.state ≠ .gripped) (out : j ∉ s.tracker.pickQueue) : (settle s).board .active j = some r := by
  obtain ⟨f, hf, active⟩ := settle_activePanel s
  rw [hp, Option.map_some] at active
  rw [State.board_active active, (hf p).2.2]
  rw [State.board_active hp] at hr
  exact settle_half hr state (fun _ _ _ => out) (.inr apart)

/-- A CLOSING panel with a board IN_TRANSIT waits, and its boards stay (R50). -/
theorem settle_closing_waits {c : Panel} (hc : s.tracker.closing = some c)
    (apart : ∀ p, s.tracker.active = some p → c.half ≠ p.half) (moving : s.inTransit .closing = true) :
    (settle s).tracker.closing = some c ∧
      ∀ j r, s.board .closing j = some r → r.state ≠ .gripped → (settle s).board .closing j = some r := by
  have before : (testDone s).tracker.closing = some c := (testDone_frame s).1.trans hc
  have same : (testDone s).inTransit .closing = s.inTransit .closing := State.inTransit_closing hc before (testDone_half s _)
  have kept : (settle s).tracker.closing = some c := by
    rw [settle_tracker, testClose_waits _ (.inr (same.trans moving))]
    exact before
  refine ⟨kept, fun j r hr state => ?_⟩
  rw [State.board_closing kept]
  rw [State.board_closing hc] at hr
  exact settle_half hr state (fun p hp hh => absurd hh.symm (apart p hp)) (.inl moving)

/-- A CLOSING panel with no board IN_TRANSIT closes (R50). -/
theorem settle_closing_closes {c : Panel} (hc : s.tracker.closing = some c) (still : s.inTransit .closing = false) :
    (settle s).tracker.closing = none ∧ (settle s).tracker.lastTally = some c.closed ∧
      (settle s).notice 14 = (s.notice 14).map (NoticeRec.raise (.panelClosed c.id c.tally)) := by
  have before : (testDone s).tracker.closing = some c := (testDone_frame s).1.trans hc
  have same : (testDone s).inTransit .closing = s.inTransit .closing := State.inTransit_closing hc before (testDone_half s _)
  obtain ⟨gone, last, notice⟩ := testClose_closes (testDone s) before (same.trans still)
  refine ⟨by rw [settle_tracker]; exact gone, by rw [settle_tracker]; exact last, ?_⟩
  have told : (settle s).notice 14 = (testClose (testDone s)).notice 14 := by
    rw [settle_eq, State.notice, clearMarks_notices, (runArbiter_arbitrated _).notices, ← State.notice,
      (selectIfAsked_selected _).notice 14 (by decide), closingPoint, State.notice, (writeDue_tables _).1, State.notice]
  rw [told, notice, if_pos rfl, testDone_notice _ (by decide)]

/-- The lanes' counts and the slots that are not EMPTY stay to the end of the event. -/
theorem settle_lane {k : Nat} {l : Lane} (hl : s.lane k = some l) : ∃ m, (settle s).lane k = some m ∧
    m.filled = l.filled ∧ m.suspect = l.suspect ∧
    ∀ (i : Nat) (st : SlotState), l.slots[i]? = some st → st ≠ .empty → m.slots[i]? = some st := by
  have lanes : (closingPoint s).hand.lanes = s.hand.lanes := by
    rw [closingPoint, Handover.lanes_of_tables (writeDue_tables _).2]
    simp
  obtain ⟨m, hm, rest⟩ := (selectIfAsked_selected (closingPoint s)).lanes k l (by rw [State.lane, lanes]; exact hl)
  refine ⟨m, ?_, rest⟩
  rw [settle_eq, State.lane, clearMarks_hand, (runArbiter_arbitrated _).hand]
  exact hm

theorem settle_totalStacked (s : State) : (settle s).tracker.totalStacked = s.tracker.totalStacked := by
  rw [settle_tracker]
  simp

end

end Sys2Proof.Machine
end

section
/-! A lane placement confirmed, or its window ended unconfirmed (R137, R143). -/

namespace Sys2Proof.Machine

/-- A board taken to a terminal state and counted, short of the close of its event. -/
structure Finished (ref : PanelRef) (b : Nat) (now : BoardState) (count : Tally → Tally) (s w : State) : Prop where
  board : w.boardState ref b = some now
  others : ∀ j, j ≠ b → w.board ref j = s.board ref j
  panel : ∀ p, s.panel ref = some p → w.panel ref = some { p with tally := count p.tally }
  active : ref = .closing → w.tracker.active = s.tracker.active
  closing : ref = .active → w.tracker.closing = s.tracker.closing
  queue : w.tracker.pickQueue = s.tracker.pickQueue
  notice : ∀ k, k ≠ 15 → w.notice k = s.notice k

section
variable {s w : State} {ref : PanelRef} {b : Nat} {now : BoardState} {count : Tally → Tally}

/-- A finished board of the active panel, at the end of the event. -/
theorem Finished.settles_active (h : Finished .active b now count s w) (ended : now ≠ .gripped) {p : Panel}
    (hp : s.tracker.active = some p) (apart : ∀ c, s.tracker.closing = some c → c.half ≠ p.half)
    (out : b ∉ s.tracker.pickQueue) : (settle w).boardState .active b = some now ∧
      (settle w).tracker.active.map (fun q => (q.id, q.tally)) = some (p.id, count p.tally) := by
  have active : w.tracker.active = some { p with tally := count p.tally } := h.panel p hp
  obtain ⟨r, hr, state⟩ := Option.map_eq_some_iff.1 h.board
  have kept := settle_board_active active (fun c hc => apart c (by rw [← h.closing rfl]; exact hc)) hr (by rw [state]; exact ended)
    (by rw [h.queue]; exact out)
  obtain ⟨f, hf, now⟩ := settle_activePanel w
  refine ⟨by rw [State.boardState_of_board kept, state], ?_⟩
  rw [now, active]
  obtain ⟨id, tally, -⟩ := hf { p with tally := count p.tally }
  simp [id, tally]

/-- A finished board of the closing panel, at the end of the event: the panel closes with its tally when it was the last one
IN_TRANSIT (R50). -/
theorem Finished.settles_closing (h : Finished .closing b now count s w) (ended : now ≠ .gripped) (landed : now ≠ .inTransit)
    {c : Panel} (hc : s.tracker.closing = some c) (apart : ∀ p, s.tracker.active = some p → c.half ≠ p.half) :
    ((∀ j r, j ≠ b → s.board .closing j = some r → r.state ≠ .inTransit) →
      (settle w).tracker.closing = none ∧ (settle w).tracker.lastTally = some { id := c.id, tally := count c.tally } ∧
      (settle w).notice 14 = (s.notice 14).map (NoticeRec.raise (.panelClosed c.id (count c.tally)))) ∧
    ((∃ j r, j ≠ b ∧ s.board .closing j = some r ∧ r.state = .inTransit) →
      (settle w).boardState .closing b = some now ∧
      (settle w).tracker.closing = some { c with tally := count c.tally }) := by
  have closing : w.tracker.closing = some { c with tally := count c.tally } := h.panel c hc
  obtain ⟨r, hr, state⟩ := Option.map_eq_some_iff.1 h.board
  refine ⟨fun rest => ?_, fun ⟨j, q, other, hq, moving⟩ => ?_⟩
  · have still : w.inTransit .closing = false := by
      refine List.any_eq_false.2 fun q hq => ?_
      obtain ⟨j, hj⟩ := List.mem_iff_getElem?.1 hq
      have hj : w.board .closing j = some q := hj
      by_cases e : j = b
      · subst e
        cases hr.symm.trans hj
        simp [state, landed]
      · rw [h.others j e] at hj
        simp [rest j q e hj]
    obtain ⟨gone, last, told⟩ := settle_closing_closes closing still
    exact ⟨gone, last, told.trans (by rw [h.notice 14 (by decide)])⟩
  · have moves : w.inTransit .closing = true := by
      have hj : w.board .closing j = some q := (h.others j other).trans hq
      exact List.any_eq_true.2 ⟨q, List.mem_of_getElem? hj, by simp [moving]⟩
    obtain ⟨waits, boards⟩ := settle_closing_waits closing
      (fun p hp => apart p (by rw [← h.active rfl]; exact hp)) moves
    exact ⟨by rw [State.boardState_of_board (boards b r hr (by rw [state]; exact ended)), state], waits⟩

/-- A loss finishes its board. -/
theorem Lost.finished {why : LostReason} {p : Panel} {r : Board} (lost : Lost ref b why p r s w) (hp : s.panel ref = some p) :
    Finished ref b (.lost why) (fun y => { y with lost := y.lost + 1 }) s w where
  board := State.boardState_of_board lost.board
  others := lost.others
  panel q hq := by
    cases hp.symm.trans hq
    exact lost.panel
  active := lost.active
  closing := lost.closing
  queue := by rw [lost.tracker]
  notice k hk := (lost.notice k).trans (if_neg hk)

/-- What a finish reads of the states it is between. -/
theorem Finished.congr {u x : State} (h : Finished ref b now count s w) (before : u.tracker = s.tracker)
    (after : x.tracker = w.tracker) (told : ∀ k, k ≠ 15 → x.notice k = u.notice k) : Finished ref b now count u x where
  board := (State.boardState_congr after ref b).trans h.board
  others j hj := by rw [State.board_congr after, h.others j hj, State.board_congr before]
  panel p hp := by
    have panel (s t : State) (e : t.tracker = s.tracker) : t.panel ref = s.panel ref := by
      cases ref <;> simp only [State.panel, e]
    rw [panel w x after]
    exact h.panel p (by rw [← panel s u before]; exact hp)
  active e := by rw [after, h.active e, before]
  closing e := by rw [after, h.closing e, before]
  queue := by rw [after, h.queue, before]
  notice := told

/-- A board that is written and counted is finished. -/
theorem finished_of_written {r : Board} (hr : s.board ref b = some r) {f : Panel → Panel}
    (hf : ∀ p, f p = { p with tally := count p.tally }) :
    Finished ref b now count s ((setBoardState ref b now s).modPanel ref f) := by
  obtain ⟨x, y, written⟩ := setBoardState_tracker s ref b now
  have half (p : Panel) : (f p).half = p.half := by rw [hf]
  have boards (j : Nat) := State.modPanel_board (setBoardState ref b now s) ref ref half j
  exact
    { board := State.boardState_of_board ((boards b).trans (setBoardState_self s now hr))
      others := fun j hj => by rw [boards, setBoardState, State.modBoard_same, if_neg (Ne.symm hj)]
      panel := fun p hp => by
        rw [State.modPanel_panel, setBoardState, State.modBoard_panel, hp, Option.map_some, hf]
      active := fun e => by subst e; rw [written]; rfl
      closing := fun e => by subst e; rw [written]; rfl
      queue := by rw [written]; cases ref <;> rfl
      notice := fun k _ => by rw [written]; cases ref <;> rfl }

end

section
variable {s : State} {v : Service} {k i : Nat} {l : Lane} {ref : PanelRef}

/-- A placement confirmed: the slot is FILLED and counted, the board STACKED and counted (R137, R65, R68). -/
theorem confirmPlacement_finishes (hv : s.hand.service = some v) (hd : v.dest = .lane k i) (hl : s.lane k = some l)
    (hi : l.slots[i]? = some .reserved) (href : s.panelRef v.panel = some ref)
    (moving : s.boardState ref v.board = some .inTransit) :
    (∃ m, (confirmPlacement v s).lane k = some m ∧ m.slots = l.slots.set i .filled ∧ m.filled = l.filled + 1 ∧
      m.suspect = l.suspect) ∧
    (confirmPlacement v s).tracker.totalStacked = min 65535 (s.tracker.totalStacked + 1) ∧
    Finished ref v.board .stacked (fun y => { y with stacked := y.stacked + 1 }) s (confirmPlacement v s) := by
  obtain ⟨lanes, fill⟩ := fillSlot_eq s v.dest
  obtain ⟨m, hm, slots, filled, suspect⟩ := fillSlot_lane hl hi
  set e := fillSlot v.dest s with he
  have service : e.hand.service = some v := by rw [fill]; exact hv
  have ref' : e.panelRef v.panel = some ref := (State.panelRef_congr (by rw [fill]) _).trans href
  have state : e.boardState ref v.board = some .inTransit := (State.boardState_congr (by rw [fill]) _ _).trans moving
  have served : e.servedState v = some .inTransit := by rw [State.servedState, ref']; exact state
  obtain ⟨r, hr, -⟩ := Option.map_eq_some_iff.1 state
  have finished := finished_of_written (now := .stacked) (count := fun y => { y with stacked := y.stacked + 1 }) hr
    (f := Panel.countStacked) fun _ => rfl
  set u := (setBoardState ref v.board .stacked e).modPanel ref Panel.countStacked with hu
  have run : confirmPlacement v s =
      let x := (countStacked u).modService fun v => { v with window := none }
      if x.hand.picker.order = none then freeService x else x := by
    have finishes : finishServed .stacked Panel.countStacked e = u := by
      simp only [finishServed, service, ref']
      rw [if_pos state]
    simp only [confirmPlacement, ← he, if_pos served, finishes]
  set x := (countStacked u).modService fun v => { v with window := none } with hx
  have last : ∃ y : State, confirmPlacement v s = y ∧ y.tracker = x.tracker ∧ y.notices = x.notices ∧
      y.hand.lanes = x.hand.lanes := by
    rw [run]
    obtain ⟨tracker, -, -, notices, -, -, -, -, tables, -⟩ := freeService_rest x
    dsimp only
    split
    · exact ⟨_, rfl, tracker, notices, Handover.lanes_of_tables tables⟩
    · exact ⟨_, rfl, rfl, rfl, rfl⟩
  obtain ⟨y, ends, tracker, notices, hand⟩ := last
  obtain ⟨a, b, written⟩ := setBoardState_tracker e ref v.board .stacked
  have hand' : x.hand.lanes = e.hand.lanes := by rw [hx, hu, written]; cases ref <;> rfl
  have total : x.tracker.totalStacked = min 65535 (s.tracker.totalStacked + 1) := by
    rw [hx, hu, written, fill]
    cases ref <;> rfl
  rw [ends]
  refine ⟨⟨m, ?_, slots, filled, suspect⟩, by rw [tracker, total], ?_⟩
  · rw [State.lane, hand, hand', he, hd]
    exact hm
  · have counted : Finished ref v.board .stacked (fun y => { y with stacked := y.stacked + 1 }) e x := by
      have panel : x.panel ref = u.panel ref := by cases ref <;> rfl
      have board (j : Nat) : x.board ref j = u.board ref j := by cases ref <;> rfl
      exact
        { board := (congrArg (Option.map Board.state) (board _)).trans finished.board
          others := fun j hj => (board j).trans (finished.others j hj)
          panel := fun p hp => panel.trans (finished.panel p hp)
          active := finished.active
          closing := finished.closing
          queue := finished.queue
          notice := finished.notice }
    refine counted.congr (by rw [fill]) tracker fun j hj => ?_
    rw [State.notice, notices, ← State.notice, counted.notice j hj, fill]
    rfl

/-- A CLOSING window that ends unconfirmed: the slot is SUSPECT and counted, the board LOST and reported (R137). -/
theorem windowEnds_finishes {ms : Nat} (hv : s.hand.service = some v) (window : v.window = some (.closing ms))
    (hd : v.dest = .lane k i) (hl : s.lane k = some l) (hi : l.slots[i]? = some .reserved)
    (href : s.panelRef v.panel = some ref) (moving : s.boardState ref v.board = some .inTransit) :
    (∃ m, (windowEnds s).lane k = some m ∧ m.slots = l.slots.set i .suspect ∧ m.filled = l.filled ∧
      m.suspect = l.suspect + 1) ∧
    (windowEnds s).tracker.totalStacked = s.tracker.totalStacked ∧
    (windowEnds s).notice 15 = (s.notice 15).map (NoticeRec.raise (.boardLost v.panel v.board .unconfirmed)) ∧
    Finished ref v.board (.lost .unconfirmed) (fun y => { y with lost := y.lost + 1 }) s (windowEnds s) := by
  obtain ⟨r, hr, state⟩ := Option.map_eq_some_iff.1 moving
  obtain ⟨p, hp, id⟩ : ∃ p, s.panel ref = some p ∧ p.id = v.panel := by
    rw [State.panelRef_eq] at href
    split at href
    · next e =>
      cases href
      exact Option.map_eq_some_iff.1 e
    · split at href
      · next e =>
        cases href
        exact Option.map_eq_some_iff.1 e
      · cases href
  have lost := loseBoard_lost .unconfirmed hp hr (by rw [state]; rfl)
  set w := loseBoard ref v.board .unconfirmed s with hw
  have run : windowEnds s = freeService (suspectSlot v.dest w) := by
    have loses : loseServed .unconfirmed s = w := by simp only [loseServed, hv, href, hw]
    simp only [windowEnds, hv, window, loses]
  obtain ⟨lanes, slot⟩ := suspectSlot_eq w v.dest
  have lane : w.lane k = some l := by rw [State.lane, lost.hand]; exact hl
  obtain ⟨m, hm, slots, filled, suspect⟩ := suspectSlot_lane lane hi
  obtain ⟨tracker, -, -, notices, -, -, -, -, tables, -⟩ := freeService_rest (suspectSlot v.dest w)
  have tracker : (freeService (suspectSlot v.dest w)).tracker = w.tracker := tracker.trans (by rw [slot])
  have told (j : Nat) : (freeService (suspectSlot v.dest w)).notice j = w.notice j := by
    rw [State.notice, notices, slot, State.notice]
  rw [run]
  refine ⟨⟨m, ?_, slots, filled, suspect⟩, by rw [tracker, lost.tracker], ?_, ?_⟩
  · rw [State.lane, Handover.lanes_of_tables tables, hd]
    exact hm
  · rw [told, lost.notice, if_pos rfl, id]
  · exact (lost.finished hp).congr rfl tracker fun j hj => (told j).trans ((lost.notice j).trans (if_neg hj))

end

end Sys2Proof.Machine
end

section
/-! The handover's completions brought together. -/

namespace Sys2Proof.Machine

section
variable {s : State}

/-! ### The picker's completions, by order and result -/

/-- What a completion of the picker's outstanding order does, by the order and its result (R121, R126 to R139). -/
def pickerEnds (kind : PickerOrder) (res : Result) (s : State) : State :=
  match kind, res with
  | .pick, .gripped => pickGripped s
  | .pick, .missed => pickMissed s
  | .retract, .ok => retractOk s
  | .lift, .ok => liftOk s
  | .lift, .dropped => liftDropped s
  | .stay, .held => stayHeld s
  | .stay, .alreadyLifted => stayLifted s
  | .place, .ok => placeOk s
  | .place, .dropped => placeDropped s
  | _, _ => pickerFault .order s

/-- A result that an order does not end with. -/
def PickerOrder.unexpected (kind : PickerOrder) (res : Result) : Prop :=
  match kind with
  | .pick => res ≠ .gripped ∧ res ≠ .missed
  | .retract => res ≠ .ok
  | .lift => res ≠ .ok ∧ res ≠ .dropped
  | .stay => res ≠ .held ∧ res ≠ .alreadyLifted
  | .place => res ≠ .ok ∧ res ≠ .dropped

theorem pickerCompleted_eq {kind : PickerOrder} (res : Result)
    (order : s.hand.picker.order = some (kind, (s.node .picker).seq)) : pickerCompleted res s = pickerEnds kind res s := by
  unfold pickerCompleted
  rw [order]
  exact if_pos rfl

/-- Any other result is the picker's fault (R121). -/
theorem pickerEnds_other {kind : PickerOrder} {res : Result} (other : kind.unexpected res) :
    pickerEnds kind res s = pickerFault .order s := by
  unfold pickerEnds
  split <;> first | rfl | simp [PickerOrder.unexpected] at other

/-! ### The elevator's completions -/

/-- An INDEX that completes with another result is the elevator's fault (R120). -/
theorem elevatorCompleted_other {o : IndexOut} {res : Result} (order : s.hand.elevator.order = some o)
    (seq : o.seq = (s.node .elevator).seq) (other : res ≠ .ok) : elevatorCompleted res s = elevatorFault .order s := by
  simp [elevatorCompleted, order, seq, other]

/-- The state an INDEX that completes OK leaves, before the PLACE is tried (R135). -/
def indexed (o : IndexOut) (s : State) : State :=
  (s.modElevator fun e => { e with state := .idle, order := none, timer := none }).modService fun v =>
    if v.dest = .lane o.lane o.slot then { v with index := .done } else v

theorem elevatorCompleted_ok {o : IndexOut} (order : s.hand.elevator.order = some o)
    (seq : o.seq = (s.node .elevator).seq) : elevatorCompleted .ok s = writePlace (indexed o s) := by
  simp [elevatorCompleted, order, seq, indexOk, indexed]

theorem indexed_service {o : IndexOut} {v : Service} (hv : s.hand.service = some v) : (indexed o s).hand.service =
    some (if v.dest = .lane o.lane o.slot then { v with index := .done } else v) := by
  rw [indexed, State.modService_hand, State.modElevator_hand, hv]
  rfl

/-- Trying a PLACE leaves the service's index state. -/
theorem writePlace_index {v : Service} (hv : s.hand.service = some v) :
    (writePlace s).hand.service.map Service.index = some v.index := by
  unfold writePlace
  simp only [hv]
  (repeat' split) <;> simp only [State.modService_hand, writePicker_rest, hv, Option.map_some]
  split <;> rfl

end

/-- Settles O54: each completion is the branch of its order and result; a placement is followed to the end of its event. -/
theorem placementSettled : Obligations.PlacementSettled := by
  unfold Obligations.PlacementSettled
  refine ⟨fun v k i l ref s => ⟨fun free => ?_, fun hv still => ?_, fun hv hd hl hi href moving => ⟨?_, ?_⟩⟩,
    fun kind res v r p s order serving hv due hp id hr => ?_, fun s hv order => ?_, fun o res s order seq state => ?_⟩
  · exact congrArg Host.Outcome.next (by simp [confirmExpiry, free] : confirmExpiry s = s)
  · refine congrArg Host.Outcome.next (?_ : confirmExpiry s = s)
    rcases window : v.window with _ | (_ | ms)
    · simp [confirmExpiry, hv, window]
    · simp [confirmExpiry, hv, window]
    · exact absurd window (still ms)
  · intro r hr timer raw window
    have sense : s.sense (.laneSense k) = r.line := by simp [State.sense, hr]
    set u := (s.setSense (.laneSense k) r.line.settled).modLaneLine k.val fun q => { q with stuckTimer := some (s.param .stuckMs) }
    have run : steadyExpiry (.sense (.laneSense k)) s = settle (confirmPlacement v u) := by
      obtain ⟨c, hc⟩ := Option.isSome_iff_exists.1 window
      have activated : laneActivated k.val u = confirmPlacement v u := by
        have service : u.hand.service = some v := hv
        simp [laneActivated, service, hc, hd]
      rw [← activated]
      simp only [steadyExpiry, sense, timer, if_true, lineEvent, raw]
      rfl
    obtain ⟨⟨m, hm, slots, filled, suspect⟩, total, finished⟩ :=
      confirmPlacement_finishes (s := u) hv hd hl hi href moving
    obtain ⟨n, hn, filled', suspect', kept⟩ := settle_lane hm
    have inside := (List.getElem?_eq_some_iff.1 hi).1
    refine ⟨_, n, congrArg Host.Outcome.next run, hn, kept i _ (by simp [slots, inside]) nofun, filled'.trans filled,
      suspect'.trans suspect, (settle_totalStacked _).trans total, fun p active hp apart out => ?_, fun c closing hc apart => ?_⟩
    · subst active
      exact finished.settles_active nofun hp apart out
    · subst closing
      exact finished.settles_closing nofun nofun hc apart
  · intro ms window
    have run : confirmExpiry s = settle (windowEnds s) := by simp [confirmExpiry, hv, window]
    obtain ⟨⟨m, hm, slots, filled, suspect⟩, total, told, finished⟩ :=
      windowEnds_finishes hv window hd hl hi href moving
    obtain ⟨n, hn, filled', suspect', kept⟩ := settle_lane hm
    have inside := (List.getElem?_eq_some_iff.1 hi).1
    refine ⟨_, n, congrArg Host.Outcome.next run, by simp, hn, kept i _ (by simp [slots, inside]) nofun,
      suspect'.trans suspect, filled'.trans filled, (settle_totalStacked _).trans total,
      (settle_notice _ (by decide) (by decide) (by decide)).trans told, fun p active hp apart out => ?_,
      fun c closing hc apart => ?_⟩
    · subst active
      exact finished.settles_active nofun hp apart out
    · subst closing
      exact finished.settles_closing nofun nofun hc apart
  · have h : ServesBoard v r p s := ⟨serving, hv, due, hp, id, (State.board_active hp _).trans hr⟩
    have eq := pickerCompleted_eq res order
    refine ⟨by simp, ?_, ?_, ?_, ?_, ?_, ?_, ?_, ?_, ?_, ?_, ?_, ?_, ?_, ?_, ?_⟩
    · rintro rfl rfl hs
      rw [eq]
      exact pickGripped_grips h hs
    · rintro rfl rfl hs
      rw [eq]
      exact pickMissed_misses h hs
    · rintro rfl rfl hs
      have run : retractOk s = pickMissed s := by simp only [retractOk, hv]
      rw [eq, show pickerEnds .retract .ok s = pickMissed s from run]
      exact pickMissed_misses h hs
    · rintro rfl rfl hs torn
      obtain ⟨board, early, writes, waits⟩ := liftOk_moves h hs torn
      rw [eq, ← State.placeReady_iff]
      exact ⟨board, early, writes, waits⟩
    · rintro rfl rfl hs torn
      rw [eq]
      exact liftOk_waits h hs torn
    · rintro rfl rfl hs
      rw [eq]
      exact liftDropped_loses h hs
    · rintro rfl rfl hs
      rw [eq]
      exact liftDropped_waits h hs
    · rintro rfl rfl hs x q hx hq owner
      rw [eq]
      exact stayHeld_holds h hs hx hq owner
    · rintro rfl rfl hs x hx - -
      obtain ⟨skipped, lost, slot, service, writes, waits⟩ := stayLifted_tears h hs hx
      rw [eq]
      exact ⟨skipped, lost, slot, service, writes, waits⟩
    · rintro rfl rfl torn
      rw [eq]
      exact placeOk_torn h torn
    · rintro rfl rfl torn dest hs
      rw [eq]
      exact placeOk_bins h torn dest hs
    · rintro rfl rfl torn dest
      rw [eq]
      exact placeOk_lane h torn dest
    · rintro rfl rfl torn
      rw [eq]
      exact placeDropped_torn h torn
    · rintro rfl rfl torn hs
      rw [eq]
      exact placeDropped_loses h torn hs
    · intro other
      rw [eq, pickerEnds_other other]
      exact ⟨pickerFault_faulted serving (.refl _), pickerFault_settles serving (.refl _)⟩
  · have run : retractOk s = askSelect ((endPickerOrder s).modPicker fun p => { p with state := .idle }) := by
      simp only [retractOk, hv]
    rw [pickerCompleted_eq .ok order]
    exact run
  · refine ⟨fun other => ?_, ?_⟩
    · rw [elevatorCompleted_other order seq other]
      exact elevatorFault_faulted state rfl rfl rfl
    · rintro rfl
      obtain ⟨-, -, elevator, -⟩ := writePlace_tables (indexed o s)
      rw [elevatorCompleted_ok order seq]
      refine ⟨elevator, by simp [indexed], (writePlace_frame _).1, fun v hv => ⟨?_, ?_⟩⟩
      · rw [writePlace_index (indexed_service hv)]
        split <;> rfl
      · intro l dest running idle serving window torn moving hl jam
        have service := indexed_service (o := o) hv
        rw [if_pos dest] at service
        have ready : (indexed o s).placeReady { v with index := .done } = true :=
          (State.placeReady_iff _ _).2 (.inr ⟨_, _, l, dest, rfl, hl, jam⟩)
        obtain ⟨written, -, opened⟩ := writePlace_writes service running idle serving window torn moving ready
        refine ⟨written, ?_⟩
        rw [opened, if_neg (by simp [dest])]
        rfl

end Sys2Proof.Machine
end

section
/-! The tracker's part in the end of a cut (R56 to R66, R90 to R94): what every operation of it leaves to the heads. -/

namespace Sys2Proof.Machine

/-! ### What the tracker's work leaves to the heads -/

/-- Work of the tracker and the picker in the end of a cut: the spindle monitor, the heads' records but for their queues, and their
nodes stay, and of the notices only TAB_FAILED, BIN_FULL and BOARD_LOST are raised. -/
structure TrackerWork (s t : State) : Prop where
  spindle : t.spindle = s.spindle
  heads : ∀ k, (t.head k).bare = (s.head k).bare
  nodes : ∀ k : Head, t.node k.node = s.node k.node
  notice : ∀ k, k ≠ 7 → k ≠ 11 → k ≠ 15 → t.notice k = s.notice k

section
variable {s t u : State}

theorem TrackerWork.refl (s : State) : TrackerWork s s := ⟨rfl, fun _ => rfl, fun _ => rfl, fun _ _ _ _ => rfl⟩

theorem TrackerWork.trans (a : TrackerWork s t) (b : TrackerWork t u) : TrackerWork s u where
  spindle := b.spindle.trans a.spindle
  heads k := (b.heads k).trans (a.heads k)
  nodes k := (b.nodes k).trans (a.nodes k)
  notice k h7 h11 h15 := (b.notice k h7 h11 h15).trans (a.notice k h7 h11 h15)

/-- Work that changes neither the dispatcher's heads nor the ring. -/
theorem TrackerWork.of_same (spindle : t.spindle = s.spindle) (heads : t.disp.heads = s.disp.heads) (ring : t.ring = s.ring)
    (notices : t.notices = s.notices) : TrackerWork s t :=
  ⟨spindle, fun k => by rw [State.head, heads, State.head], fun k => by simp only [State.node, ring],
    fun k _ _ _ => by rw [State.notice, notices, State.notice]⟩

theorem TrackerWork.of_bare (bare : t.bare = s.bare) : TrackerWork s t := by
  obtain ⟨-, ring, notices, -, -, -, spindle⟩ := State.blocks_of_bare bare
  exact ⟨spindle, State.head_of_bare bare, fun k => by simp only [State.node, ring],
    fun k _ _ _ => by rw [State.notice, notices, State.notice]⟩

theorem writePicker_work (k : PickerOrder) (o : Order) (s : State) : TrackerWork s (writePicker k o s) :=
  ⟨rfl, fun _ => rfl, fun h => by cases h <;> rfl, fun _ _ _ _ => rfl⟩

theorem setBoardState_work (ref : PanelRef) (b : Nat) (st : BoardState) (s : State) :
    TrackerWork s (setBoardState ref b st s) := by
  obtain ⟨x, y, e⟩ := setBoardState_tracker s ref b st
  rw [e]
  exact .of_same rfl rfl rfl rfl

theorem modTab_work (i : Nat) (f : Tab → Tab) (s : State) : TrackerWork s (s.modTab i f) := .of_same rfl rfl rfl rfl

theorem raise_work {d : Detail} (hd : d.cls = 7 ∨ d.cls = 11 ∨ d.cls = 15) (s : State) : TrackerWork s (raise d s) :=
  ⟨rfl, fun _ => rfl, fun _ => rfl, fun k h7 h11 h15 => (raise_notice d s k).trans (if_neg (by
    rintro rfl
    rcases hd with h | h | h
    · exact h7 h
    · exact h11 h
    · exact h15 h))⟩

theorem releaseContingency_work (s : State) : TrackerWork s (releaseContingency s) := by
  obtain ⟨ring, notices, -, -, spindle, -⟩ := releaseContingency_rest s
  exact .of_same spindle (by rw [(releaseContingency_frame s).2.1]) ring notices

theorem releaseSlot_work (d : Dest) (s : State) : TrackerWork s (releaseSlot d s) := by
  obtain ⟨lanes, e, run⟩ := releaseSlot_eq s d
  rw [run]
  exact .of_same rfl rfl rfl rfl

theorem freeService_work (s : State) : TrackerWork s (freeService s) := by
  obtain ⟨-, disp, ring, notices, -, -, spindle, -⟩ := freeService_rest s
  exact .of_same spindle (by rw [disp]) ring notices

theorem modService_work (f : Service → Service) (s : State) : TrackerWork s (s.modService f) := .of_same rfl rfl rfl rfl

theorem writePlace_work (s : State) : TrackerWork s (writePlace s) := by
  unfold writePlace
  (repeat' split) <;> first
    | exact .refl s
    | exact writePicker_work _ _ s
    | exact (writePicker_work _ _ s).trans (modService_work _ _)

theorem writeLift_work (s : State) : TrackerWork s (writeLift s) := by
  unfold writeLift
  (repeat' split) <;> first
    | exact .refl s
    | exact writePicker_work _ _ s

theorem modPicker_work (f : PickerRec → PickerRec) (s : State) : TrackerWork s (s.modPicker f) := .of_same rfl rfl rfl rfl

theorem withdraw_work (s : State) : TrackerWork s (withdraw s) := by
  unfold withdraw
  dsimp only
  split
  · exact .refl s
  next v _ =>
  have released := (releaseSlot_work v.dest s).trans (releaseContingency_work _)
  have retracts (w : State) : TrackerWork w (writeRetract w) := by
    unfold writeRetract
    split
    · exact (writePicker_work _ _ w).trans (modPicker_work _ _)
    · exact .refl w
  have freed (w : State) : TrackerWork w { w with hand := { w.hand with service := none } } := .of_same rfl rfl rfl rfl
  refine released.trans (TrackerWork.trans ?_ ((freed _).trans (retracts _)))
  split
  · exact writePicker_work _ _ _
  · exact writePicker_work _ _ _
  · exact modPicker_work _ _

theorem loseBoard_work (ref : PanelRef) (b : Nat) (why : LostReason) (s : State) : TrackerWork s (loseBoard ref b why s) := by
  unfold loseBoard
  split
  · next p r hp hr =>
    split
    · exact .refl s
    · next live =>
      have lost := loseBoard_lost why hp hr (by simpa using live)
      rw [loseBoard_eq why hp hr (by simpa using live)] at lost
      exact ⟨lost.spindle, fun k => by rw [State.head, lost.disp, State.head], fun k => by simp only [State.node, lost.ring],
        fun k _ _ h15 => (lost.notice k).trans (if_neg h15)⟩
  · exact .refl s

theorem retainNow_work (b : Nat) (why : RetainReason) (s : State) : TrackerWork s (retainNow b why s) := by
  cases hr : s.board .active b with
  | none => rw [retainNow, hr]; exact .refl s
  | some r =>
    obtain ⟨p, hp⟩ := State.active_of_board hr
    have retained := retaining_retained why hp hr
    have ring := (retaining_hand s b why r).2
    have kept : TrackerWork s (skipTabsOf b (s.retaining b why r)) :=
      ⟨retained.spindle, retained.heads, fun k => by simp only [State.node, ring],
        fun k _ _ _ => by rw [State.notice, retained.notices, State.notice]⟩
    rw [retainNow_eq why hp hr]
    split
    · exact kept.trans (withdraw_work _)
    · exact kept

theorem retain_work (b : Nat) (why : RetainReason) (s : State) : TrackerWork s (retain b why s) := by
  unfold retain
  split <;> first
    | exact retainNow_work b why s
    | exact .refl s

theorem retainJoined_work (x : Tab) (why : RetainReason) (s : State) : TrackerWork s (retainJoined x why s) := by
  unfold retainJoined
  split
  · exact (retain_work _ why s).trans (retain_work _ why _)
  · exact retain_work _ why s

theorem markSkipped_work (i : Nat) (why : SkipReason) (s : State) : TrackerWork s (markSkipped i why s) :=
  .of_bare (markSkipped_bare s i why)

theorem tornBoard_work (b : Nat) (holding : Bool) (s : State) : TrackerWork s (tornBoard b holding s) := by
  unfold tornBoard
  have lost := (loseBoard_work .active b .torn s).trans (releaseSlot_work s.serviceDest _)
  dsimp only
  split
  · exact lost.trans ((modService_work _ _).trans (writePlace_work _))
  · exact lost.trans ((releaseContingency_work _).trans (freeService_work _))

theorem dropLifted_work (ref : PanelRef) (b : Nat) (s : State) : TrackerWork s (dropLifted ref b s) :=
  (loseBoard_work ref b .dropped s).trans ((releaseSlot_work _ _).trans (freeService_work _))

theorem joinPickFront_work (b : Nat) (s : State) : TrackerWork s (joinPickFront b s) := .of_same rfl rfl rfl rfl

/-! ### The settling of a tab (R93, R94) -/

theorem requeue_work (h : Head) (stopped : Bool) (i : Nat) (s : State) : TrackerWork s (requeue h stopped i s) := by
  cases hx : s.tab i with
  | none => rw [show requeue h stopped i s = s by simp [requeue, hx]]; exact .refl s
  | some x =>
    obtain ⟨place, e, put⟩ := requeue_puts h stopped hx
    have marked : TrackerWork s { s with ev := e } := .of_same rfl rfl rfl rfl
    rw [put]
    exact marked.trans (.of_bare (putTab_bare _ i place true))

theorem failTab_work (i : Nat) (how : CutHow) (s : State) : TrackerWork s (failTab i how s) := by
  unfold failTab
  split
  · exact (modTab_work i _ s).trans ((retainJoined_work _ _ _).trans (raise_work (.inl rfl) _))
  · exact .refl s

theorem settlePlain_work (h : Head) (stopped : Bool) (how : CutHow) (i : Nat) (s : State) :
    TrackerWork s (settlePlain h stopped how i s) := by
  unfold settlePlain
  (repeat' split) <;> first
    | exact markSkipped_work i _ s
    | exact failTab_work i how s
    | exact requeue_work h stopped i s
    | exact .refl s

theorem settleRelease_work (h : Head) (stopped : Bool) (how : CutHow) (i : Nat) (s : State) :
    TrackerWork s (settleRelease h stopped how i s) := by
  have retains (b : Nat) (why : RetainReason) (w : State) : TrackerWork w (retainReleasing b why w) := by
    unfold retainReleasing
    split
    · exact retainNow_work b why w
    · exact .refl w
  have back (b : Nat) (w : State) : TrackerWork w (backToGripped b w) := by
    unfold backToGripped
    split
    · exact setBoardState_work _ _ _ w
    · exact .refl w
  unfold settleRelease
  split
  · split
    · exact (markSkipped_work i _ s).trans (retains _ _ _)
    split
    · exact (modTab_work i _ s).trans ((retains _ _ _).trans (raise_work (.inl rfl) _))
    · exact (back _ s).trans (requeue_work h stopped i _)
  · exact .refl s

theorem settleReleaseTab_work (h : Head) (stopped : Bool) (how : CutHow) (i : Nat) (s : State) :
    TrackerWork s (settleReleaseTab h stopped how i s) := by
  unfold settleReleaseTab
  split
  · split
    · exact markSkipped_work i _ s
    split
    · exact (markSkipped_work i _ s).trans (tornBoard_work _ _ _)
    · exact (markSkipped_work i _ s).trans (tornBoard_work _ _ _)
    · exact (modTab_work i _ s).trans (writePicker_work _ _ _)
    · split
      · exact settleRelease_work h stopped how i s
      · dsimp only
        split
        · exact (modTab_work i _ s).trans (joinPickFront_work _ _)
        · exact modTab_work i _ s
  · exact .refl s

theorem settleTab_work (h : Head) (stopped : Bool) (how : CutHow) (i : Nat) (s : State) :
    TrackerWork s (settleTab h stopped how i s) := by
  unfold settleTab
  (repeat' split) <;> first
    | exact settleReleaseTab_work h stopped how i s
    | exact settlePlain_work h stopped how i s
    | exact .refl s

/-! ### The report of a tab that is DONE (R90) -/

theorem releaseDone_work (b : Nat) (s : State) : TrackerWork s (releaseDone b s) := by
  unfold releaseDone
  split
  · have free := setBoardState_work .active b .free s
    have released := free.trans (releaseContingency_work _)
    dsimp only
    split
    · exact free.trans (writeLift_work _)
    · exact released
    · exact released.trans ((setBoardState_work _ _ _ _).trans (writePlace_work _))
    · exact released.trans (dropLifted_work _ _ _)
  · exact loseBoard_work _ _ _ s
  · exact .refl s

theorem testReady_work (b : Nat) (s : State) : TrackerWork s (testReady b s) := by
  have ready (f : Board → Board) (w : State) : TrackerWork w (w.modBoard .active b f) := by
    obtain ⟨x, y, e⟩ := w.modBoard_tracker .active b f
    rw [e]
    exact .of_same rfl rfl rfl rfl
  have reserves (w : State) : TrackerWork w (reserveBin w) := by
    unfold reserveBin
    dsimp only
    split
    · refine TrackerWork.trans (t := { w with hand := { w.hand with binReserved := w.hand.binReserved + 1 } })
        (.of_same rfl rfl rfl rfl) (raise_work (.inr (.inl rfl)) _)
    · exact .of_same rfl rfl rfl rfl
  have joins (w : State) : TrackerWork w (joinPickBack b w) := .of_same rfl rfl rfl rfl
  unfold testReady
  split
  · exact .refl s
  split
  · split
    · exact retain_work b _ s
    split
    · split
      · exact (ready _ s).trans ((reserves _).trans (joins _))
      · exact (retain_work b _ s).trans (raise_work (.inr (.inl rfl)) _)
    · exact (setBoardState_work _ _ _ s).trans (joins _)
  · exact .refl s

theorem reportDone_work (x : Tab) (s : State) : TrackerWork s (reportDone x s) := by
  unfold reportDone
  have lowered : TrackerWork s (lowerCounts x s) := .of_bare (lowerCounts_bare s x)
  have done (w : State) : TrackerWork w (if x.release then releaseDone x.owner w else w) := by
    split
    · exact releaseDone_work _ w
    · exact .refl w
  dsimp only
  split
  · exact lowered.trans ((done _).trans ((testReady_work _ _).trans (testReady_work _ _)))
  · exact lowered.trans ((done _).trans (testReady_work _ _))

end

end Sys2Proof.Machine
end

section
/-! A head's own work once its order is over (R75, R80, R81, R109 to R115): the change that is due, the choice of a bit, leaving and
entering service, and what of the state they leave. -/

namespace Sys2Proof.Machine

/-- A head's record without its state and its queue. -/
def HeadRec.kept (r : HeadRec) : HeadRec := { r with state := .idle, queue := [] }

/-- Work of the heads on bits, service and pairing: the tracker, the handover unit, the picker's node, the latches, the changes due
and what else a head's record holds stay; of the notices NO_TOOL and PAIR_FAULT are raised; a tab is untouched or queued. -/
structure OwnWork (s t : State) : Prop where
  tracker : t.tracker = s.tracker
  hand : t.hand = s.hand
  picker : t.node .picker = s.node .picker
  latch : ∀ n, (t.node n).latch = (s.node n).latch
  notice : ∀ k, k ≠ 9 → k ≠ 12 → t.notice k = s.notice k
  due : t.spindle.due = s.spindle.due
  kept : ∀ k, (t.head k).kept = (s.head k).kept
  tabs : ∀ i x, s.tab i = some x → ∃ y, t.tab i = some y ∧ (y = x ∨ ∃ place, y = x.queuedIn place)

theorem HeadRec.kept_of_bare {x y : HeadRec} (h : x.bare = y.bare) : x.kept = y.kept := by
  have e := congrArg HeadRec.kept h
  exact e

theorem HeadRec.state_of_bare {x y : HeadRec} (h : x.bare = y.bare) : x.state = y.state := by
  have e := congrArg HeadRec.state h
  exact e

theorem setHeadState_head (h : Head) (st : HeadState) (s : State) :
    (setHeadState h st s).head h = { s.head h with state := st } := by
  rw [setHeadState, State.modHead, State.setHead_head]

section
variable {s t u : State}

theorem OwnWork.refl (s : State) : OwnWork s s :=
  ⟨rfl, rfl, rfl, fun _ => rfl, fun _ _ _ => rfl, rfl, fun _ => rfl, fun _ x hx => ⟨x, hx, .inl rfl⟩⟩

theorem OwnWork.trans (a : OwnWork s t) (b : OwnWork t u) : OwnWork s u where
  tracker := b.tracker.trans a.tracker
  hand := b.hand.trans a.hand
  picker := b.picker.trans a.picker
  latch n := (b.latch n).trans (a.latch n)
  notice k h9 h12 := (b.notice k h9 h12).trans (a.notice k h9 h12)
  due := b.due.trans a.due
  kept k := (b.kept k).trans (a.kept k)
  tabs i x hx := by
    obtain ⟨y, hy, first⟩ := a.tabs i x hx
    obtain ⟨z, hz, second⟩ := b.tabs i y hy
    refine ⟨z, hz, ?_⟩
    rcases second with rfl | ⟨place, rfl⟩
    · exact first
    · rcases first with rfl | ⟨before, rfl⟩
      · exact .inr ⟨place, rfl⟩
      · exact .inr ⟨place, rfl⟩

theorem OwnWork.foldl {α : Type} {f : State → α → State} (hf : ∀ s a, OwnWork s (f s a)) (l : List α) (s : State) :
    OwnWork s (l.foldl f s) := by
  induction l generalizing s with
  | nil => exact .refl s
  | cons a l ih => exact (hf s a).trans (ih _)

/-- Work within the dispatcher and the spindle monitor that leaves the tabs and the changes due. -/
theorem OwnWork.of_same (tracker : t.tracker = s.tracker) (hand : t.hand = s.hand) (ring : t.ring = s.ring)
    (notices : t.notices = s.notices) (due : t.spindle.due = s.spindle.due) (tabs : t.disp.tabs = s.disp.tabs)
    (kept : ∀ k, (t.head k).kept = (s.head k).kept) : OwnWork s t :=
  ⟨tracker, hand, by simp only [State.node, ring], fun n => by simp only [State.node, ring],
    fun k _ _ => by rw [State.notice, notices, State.notice], due, kept, fun i x hx => ⟨x, by rw [State.tab, tabs]; exact hx, .inl rfl⟩⟩

theorem putTab_own (i : Nat) (p : Place) (front : Bool) (s : State) : OwnWork s (putTab i p front s) := by
  obtain ⟨tracker, hand, ring, notices, -, -, -, spindle⟩ := putTab_rest i p front s
  refine ⟨tracker, hand, by simp only [State.node, ring], fun n => by simp only [State.node, ring],
    fun k _ _ => by rw [State.notice, notices, State.notice], by rw [spindle],
    fun k => HeadRec.kept_of_bare (State.head_of_bare (putTab_bare s i p front) k), fun j x hx => ?_⟩
  have tab : (putTab i p front s).tab j = (s.modTab i (Tab.queuedIn p)).tab j := by cases p <;> rfl
  rw [tab, State.modTab_tab, hx]
  split
  · exact ⟨_, rfl, .inr ⟨p, rfl⟩⟩
  · exact ⟨x, rfl, .inl rfl⟩

theorem reassign_own (s : State) (i : Nat) : OwnWork s (reassign s i) := by
  unfold reassign
  split
  · exact putTab_own _ _ _ s
  · exact .refl s

theorem modHead_own {h : Head} {f : HeadRec → HeadRec} (hf : (f (s.head h)).kept = (s.head h).kept) :
    OwnWork s (s.modHead h f) :=
  .of_same rfl rfl rfl rfl rfl rfl fun k => by
    by_cases e : k = h
    · subst e
      rw [State.modHead, State.setHead_head]
      exact hf
    · rw [State.modHead, State.setHead_head_ne _ _ _ _ e]

theorem setHeadState_own (h : Head) (st : HeadState) (s : State) : OwnWork s (setHeadState h st s) := modHead_own rfl

theorem moveOut_own (h : Head) (s : State) : OwnWork s (moveOut h s) := by
  have emptied : OwnWork s (s.modHead h fun r => { r with queue := [] }) := modHead_own rfl
  have moves (l : List Nat) (w : State) : OwnWork w (l.foldl reassign w) := .foldl reassign_own l w
  unfold moveOut
  dsimp only
  (repeat' split) <;> first
    | exact emptied.trans (moves _ _)
    | exact emptied.trans ((putTab_own _ _ _ _).trans (moves _ _))

/-- What an evaluation of the pairing mode leaves (R75). -/
theorem evalPairing_rest (s : State) : (evalPairing s).hand = s.hand ∧ (evalPairing s).ring = s.ring ∧
    (evalPairing s).spindle = s.spindle ∧ (evalPairing s).ev = s.ev ∧
    (evalPairing s).disp.unassigned = s.disp.unassigned ∧
    (evalPairing s).disp.paired = (s.pairingFails == none) ∧
      ∀ k, k ≠ 12 → (evalPairing s).notice k = s.notice k := by
  unfold evalPairing
  dsimp only
  have told (k : Nat) (hk : k ≠ 12) (j : Nat) (w : State) : (raise (.pairFault j) w).notice k = w.notice k :=
    (raise_notice _ w k).trans (if_neg (Ne.symm hk))
  split
  · split
    · exact ⟨rfl, rfl, rfl, rfl, rfl, rfl, fun k hk => told k hk _ _⟩
    · exact ⟨rfl, rfl, rfl, rfl, rfl, rfl, fun _ _ => rfl⟩
  · exact ⟨rfl, rfl, rfl, rfl, rfl, rfl, fun _ _ => rfl⟩

theorem evalPairing_head (s : State) (k : Head) : (evalPairing s).head k = s.head k := by
  obtain ⟨-, -, -, heads⟩ := evalPairing_frame s
  rw [State.head, heads, State.head]

theorem evalPairing_tab (s : State) (i : Nat) : (evalPairing s).tab i = s.tab i := by
  obtain ⟨-, -, tabs, -⟩ := evalPairing_frame s
  rw [State.tab, tabs, State.tab]

theorem evalPairing_own (s : State) : OwnWork s (evalPairing s) := by
  obtain ⟨hand, ring, spindle, -, -, -, notice⟩ := evalPairing_rest s
  exact ⟨(evalPairing_frame s).1, hand, by simp only [State.node, ring], fun n => by simp only [State.node, ring],
    fun k _ h12 => notice k h12, by rw [spindle], fun k => by rw [evalPairing_head],
    fun i x hx => ⟨x, by rw [evalPairing_tab, hx], .inl rfl⟩⟩

theorem leaveService_own (h : Head) (s : State) : OwnWork s (leaveService h s) := by
  have marked (e : EventMarks) : OwnWork s { s with ev := e } := .of_same rfl rfl rfl rfl rfl rfl fun _ => rfl
  unfold leaveService
  dsimp only
  split
  · exact marked _
  · exact (marked _).trans ((moveOut_own h _).trans (evalPairing_own _))

theorem takeUnassigned_own (h : Head) (s : State) (i : Nat) : OwnWork s (takeUnassigned h s i) := by
  have removed (l : List Nat) : OwnWork s { s with disp := { s.disp with unassigned := l } } :=
    .of_same rfl rfl rfl rfl rfl rfl fun _ => rfl
  unfold takeUnassigned
  split
  · split
    · exact (removed _).trans (putTab_own _ _ _ _)
    · exact .refl s
  · exact .refl s

theorem enterService_own (h : Head) (s : State) : OwnWork s (enterService h s) :=
  (OwnWork.foldl (takeUnassigned_own h) _ s).trans (evalPairing_own _)

theorem setChange_own (h : Head) (c : Option Change) (s : State) : OwnWork s (s.setChange h c) :=
  .of_same rfl rfl rfl rfl rfl rfl fun _ => rfl

theorem modRack_own (i : Nat) (f : RackPos → RackPos) (s : State) : OwnWork s (s.modRack i f) :=
  .of_same rfl rfl rfl rfl rfl rfl fun _ => rfl

theorem writeOrder_own (h : Head) (o : Order) (s : State) : OwnWork s (writeOrder h.node o s) :=
  ⟨rfl, rfl, by cases h <;> rfl, fun n => by cases h <;> cases n <;> rfl, fun _ _ _ => rfl, rfl, fun _ => rfl,
    fun _ x hx => ⟨x, hx, .inl rfl⟩⟩

theorem writeTool_own (h : Head) (s : State) : OwnWork s (writeTool h s) := by
  unfold writeTool
  (repeat' split) <;> first
    | exact (writeOrder_own h _ s).trans (setChange_own h _ _)
    | exact .refl s

theorem engage_own (h : Head) (c : Change) (i : Nat) (s : State) : OwnWork s (engage h c i s) := by
  have changed := (modRack_own i (fun p => { p with engaged := some h }) s).trans ((setChange_own h
    (some { c with fetch := some i, state := .awaitingRun, timer := none }) _).trans (setHeadState_own h .changing _))
  unfold engage
  dsimp only
  split
  · exact changed.trans (writeTool_own h _)
  · exact changed.trans ((enterService_own h _).trans (writeTool_own h _))

theorem setWaiting_own (l : List Head) (s : State) : OwnWork s { s with spindle := { s.spindle with waiting := l } } :=
  .of_same rfl rfl rfl rfl rfl rfl fun _ => rfl

theorem raise_noTool_own (h : Head) (s : State) : OwnWork s (raise (.noTool h) s) :=
  ⟨rfl, rfl, rfl, fun _ => rfl, fun k h9 _ => (raise_notice _ s k).trans (if_neg (Ne.symm h9)), rfl, fun _ => rfl,
    fun _ x hx => ⟨x, hx, .inl rfl⟩⟩

theorem pickBit_own (h : Head) (s : State) : OwnWork s (pickBit h s) := by
  unfold pickBit
  split
  · exact .refl s
  split
  · exact engage_own h _ _ s
  · have entered : OwnWork s (if (s.head h).state.inService then s else enterService h (setHeadState h .changing s)) := by
      split
      · exact .refl s
      · exact (setHeadState_own h .changing s).trans (enterService_own h _)
    exact entered.trans ((setHeadState_own h .noTool _).trans ((setWaiting_own _ _).trans
      ((raise_noTool_own h _).trans (leaveService_own h _))))

theorem beginChange_own (h : Head) (s : State) : OwnWork s (beginChange h s) :=
  (setChange_own h _ s).trans (pickBit_own h _)

theorem headIdle_own (h : Head) (s : State) : OwnWork s (headIdle h s) := by
  unfold headIdle
  split
  · exact beginChange_own h s
  · exact setHeadState_own h .idle s

theorem serveOne_own (s : State) (h : Head) : OwnWork s (serveOne s h) := by
  unfold serveOne
  (repeat' split) <;> first
    | exact (setWaiting_own _ s).trans (engage_own h _ _ _)
    | exact .refl s

theorem serveList_own (s : State) : OwnWork s (serveList s) := .foldl serveOne_own _ s

/-! ### The head's state -/

theorem moveOut_head (h k : Head) (s : State) : ((moveOut h s).head k).bare = (s.head k).bare :=
  State.head_of_bare (moveOut_bare s h) k

theorem leaveService_head (h k : Head) (s : State) : ((leaveService h s).head k).bare = (s.head k).bare := by
  unfold leaveService
  dsimp only
  split
  · rfl
  · rw [evalPairing_head, moveOut_head]
    rfl

theorem takeUnassigned_bare (h k : Head) (s : State) (i : Nat) :
    ((takeUnassigned h s i).head k).bare = (s.head k).bare := by
  unfold takeUnassigned
  (repeat' split) <;> first
    | exact State.head_of_bare (putTab_bare _ _ _ _) k
    | rfl

theorem enterService_head (h k : Head) (s : State) : ((enterService h s).head k).bare = (s.head k).bare := by
  have takes (l : List Nat) (w : State) : ((l.foldl (takeUnassigned h) w).head k).bare = (w.head k).bare := by
    induction l generalizing w with
    | nil => rfl
    | cons i l ih => rw [List.foldl_cons, ih, takeUnassigned_bare]
  rw [enterService, evalPairing_head, takes]

theorem writeTool_head (h k : Head) (s : State) : (writeTool h s).head k = s.head k := by
  unfold writeTool
  (repeat' split) <;> rfl

theorem engage_state (h : Head) (c : Change) (i : Nat) (s : State) : ((engage h c i s).head h).state = .changing := by
  unfold engage
  dsimp only
  rw [writeTool_head]
  split
  · rw [setHeadState_head]
  · rw [HeadRec.state_of_bare (enterService_head h h _), setHeadState_head]

/-- The choice of a bit leaves the head CHANGING or NO_TOOL (R110). -/
theorem pickBit_state {h : Head} {c : Change} (hc : s.change h = some c) :
    ((pickBit h s).head h).state = .changing ∨ ((pickBit h s).head h).state = .noTool := by
  unfold pickBit
  rw [hc]
  dsimp only
  split
  · exact .inl (engage_state h c _ s)
  · refine .inr ((HeadRec.state_of_bare (leaveService_head h h _)).trans ?_)
    exact congrArg HeadRec.state (setHeadState_head h .noTool _)

theorem State.setChange_change (h : Head) (c : Option Change) (s : State) : (s.setChange h c).change h = c := by
  cases h <;> rfl

/-- A head with its change due begins it; any other becomes IDLE (R109). -/
theorem headIdle_due {h : Head} (due : s.due h = true) :
    ((headIdle h s).head h).state = .changing ∨ ((headIdle h s).head h).state = .noTool := by
  rw [headIdle, if_pos due]
  exact pickBit_state (State.setChange_change h _ s)

theorem headIdle_idle {h : Head} (due : s.due h = false) : headIdle h s = setHeadState h .idle s :=
  if_neg (by simp [due])

/-! ### Tabs outside the queue of the head that leaves service -/

theorem putTab_tab_ne {i j : Nat} (p : Place) (front : Bool) (hj : i ≠ j) : (putTab i p front s).tab j = s.tab j := by
  have tab : (putTab i p front s).tab j = (s.modTab i (Tab.queuedIn p)).tab j := by cases p <;> rfl
  rw [tab, State.modTab_tab, if_neg hj]

theorem reassign_tab_ne {i j : Nat} (hj : i ≠ j) : (reassign s i).tab j = s.tab j := by
  unfold reassign
  split
  · exact putTab_tab_ne _ _ hj
  · rfl

theorem foldl_reassign_tab {l : List Nat} {j : Nat} (hj : j ∉ l) : (l.foldl reassign s).tab j = s.tab j := by
  induction l generalizing s with
  | nil => rfl
  | cons i l ih =>
    obtain ⟨hi, hl⟩ := not_or.1 (mt List.mem_cons.2 hj)
    rw [List.foldl_cons, ih hl, reassign_tab_ne (Ne.symm hi)]

theorem moveOut_tab {h : Head} {j : Nat} (hj : j ∉ (s.head h).queue) : (moveOut h s).tab j = s.tab j := by
  unfold moveOut
  dsimp only
  have emptied : (s.modHead h fun r => { r with queue := [] }).tab j = s.tab j := rfl
  split
  · next i _ =>
    split
    · next mem =>
      have other : i ≠ j := fun e => hj (e ▸ by simpa using mem)
      split
      · rw [foldl_reassign_tab fun m => hj (List.mem_of_mem_filter m), putTab_tab_ne _ _ other, emptied]
      · rw [foldl_reassign_tab hj, emptied]
    · rw [foldl_reassign_tab hj, emptied]
  · rw [foldl_reassign_tab hj, emptied]

theorem leaveService_tab {h : Head} {j : Nat} (hj : j ∉ (s.head h).queue) : (leaveService h s).tab j = s.tab j := by
  unfold leaveService
  dsimp only
  split
  · rfl
  · rw [evalPairing_tab]
    exact moveOut_tab (s := { s with ev := { s.ev with left := s.ev.left.set h true } }) hj

theorem writeTool_tab (h : Head) (j : Nat) (s : State) : (writeTool h s).tab j = s.tab j := by
  unfold writeTool
  (repeat' split) <;> rfl

/-- The choice of a bit by a head in service moves the tabs of its queue alone (R80, R110). -/
theorem pickBit_tab {h : Head} {j : Nat} (serves : (s.head h).state.inService = true) (hj : j ∉ (s.head h).queue) :
    (pickBit h s).tab j = s.tab j := by
  unfold pickBit
  split
  · rfl
  split
  · unfold engage
    dsimp only
    rw [writeTool_tab, if_pos serves]
    rfl
  · rw [if_pos serves, leaveService_tab]
    · rfl
    · refine fun mem => hj ?_
      simpa [State.head, setHeadState, State.modHead] using mem

theorem headIdle_tab {h : Head} {j : Nat} (serves : (s.head h).state.inService = true) (hj : j ∉ (s.head h).queue) :
    (headIdle h s).tab j = s.tab j := by
  unfold headIdle
  split
  · exact pickBit_tab (s := s.setChange h _) serves hj
  · rfl

end

end Sys2Proof.Machine
end

section
/-! The settling of a tab whose cut ended without DONE (R93, R94), row by row. -/

namespace Sys2Proof.Machine

/-! ### The cut that is over -/

/-- What the end of a cut does before its tab is reported or settled: the entry changed as the end says, the head free of it, the
bit charged, and the peak written (R90, R92, R95, R103). -/
def cutOver (h : Head) (i : Nat) (f : Tab → Tab) (mm : Nat) (s : State) : State :=
  handPeak h i (chargeBit h mm (endHead h (s.modTab i f)))

/-- What of the state the end of the cut leaves. -/
structure CutOver (h : Head) (i : Nat) (f : Tab → Tab) (s w : State) : Prop where
  tracker : w.tracker = s.tracker
  hand : w.hand = s.hand
  ring : w.ring = s.ring
  notices : w.notices = s.notices
  lines : w.lines = s.lines
  req : w.req = s.req
  ev : w.ev = s.ev
  unassigned : w.disp.unassigned = s.disp.unassigned
  head : w.head h = { s.head h with tab := none, cause := none, timer := none }
  others : ∀ k, k ≠ h → w.head k = s.head k
  tab : ∀ x, s.tab i = some x → w.tab i = some { f x with peak := some ((s.filter h).peak.getD 0) }
  tab_ne : ∀ j, j ≠ i → w.tab j = s.tab j

section
variable {s t u w : State} {h : Head} {i : Nat} {y : Tab} {stopped : Bool} {how : CutHow}

/-- A charge changes the spindle monitor alone, and no filter (R104). -/
theorem chargeBit_spindle (h : Head) (mm : Nat) (s : State) : ∃ sp : Spindle,
    chargeBit h mm s = { s with spindle := sp } ∧ sp.filters = s.spindle.filters := by
  unfold chargeBit
  split
  · exact ⟨_, rfl, rfl⟩
  dsimp only
  (repeat' split) <;> exact ⟨_, rfl, rfl⟩

theorem cutOver_over (h : Head) (i : Nat) (f : Tab → Tab) (mm : Nat) (s : State) : CutOver h i f s (cutOver h i f mm s) := by
  obtain ⟨sp, charge, filters⟩ := chargeBit_spindle h mm (endHead h (s.modTab i f))
  have head (k : Head) : (cutOver h i f mm s).head k = (endHead h (s.modTab i f)).head k := by
    rw [cutOver, charge]; rfl
  have tab (j : Nat) : (cutOver h i f mm s).tab j = ((s.modTab i f).modTab i fun t =>
      { t with peak := some ((s.filter h).peak.getD 0) }).tab j := by
    have same : ({ endHead h (s.modTab i f) with spindle := sp } : State).filter h = s.filter h := by
      rw [State.filter, filters]; rfl
    rw [cutOver, charge, handPeak, same]
    rfl
  exact
    { tracker := by rw [cutOver, charge]; rfl
      hand := by rw [cutOver, charge]; rfl
      ring := by rw [cutOver, charge]; rfl
      notices := by rw [cutOver, charge]; rfl
      lines := by rw [cutOver, charge]; rfl
      req := by rw [cutOver, charge]; rfl
      ev := by rw [cutOver, charge]; rfl
      unassigned := by rw [cutOver, charge]; rfl
      head := by
        rw [head, endHead, State.modHead, State.setHead_head]
        rfl
      others := fun k hk => by
        rw [head, endHead, State.modHead, State.setHead_head_ne _ _ _ _ hk]
        rfl
      tab := fun x hx => by
        rw [tab, State.modTab_tab, if_pos rfl, State.modTab_tab, if_pos rfl, hx]
        rfl
      tab_ne := fun j hj => by
        rw [tab, State.modTab_tab, if_neg (Ne.symm hj), State.modTab_tab, if_neg (Ne.symm hj)] }

/-! ### Queues that only lose tabs -/

/-- No tab joins a head's queue. -/
def QueuesIn (s t : State) : Prop := ∀ k j, j ∈ (t.head k).queue → j ∈ (s.head k).queue

theorem QueuesIn.refl (s : State) : QueuesIn s s := fun _ _ h => h

theorem QueuesIn.trans (a : QueuesIn s t) (b : QueuesIn t u) : QueuesIn s u := fun k j h => a k j (b k j h)

theorem QueuesIn.of_heads (h : t.disp.heads = s.disp.heads) : QueuesIn s t := fun k j mem => by
  rw [State.head, h] at mem
  exact mem

theorem leaveLists_queues (i : Nat) (s : State) : QueuesIn s (leaveLists i s) := fun k j h => by
  cases k <;> exact List.mem_of_mem_filter h

theorem markSkipped_queues (i : Nat) (why : SkipReason) (s : State) : QueuesIn s (markSkipped i why s) := by
  unfold markSkipped
  split
  · exact (leaveLists_queues i s).trans (.of_heads (by rw [lowerCounts_disp]; rfl))
  · exact .refl s

theorem skipTab_queues (i : Nat) (s : State) : QueuesIn s (skipTab i s) := by
  unfold skipTab
  (repeat' split) <;> first
    | exact markSkipped_queues i _ s
    | exact .of_heads rfl

theorem skipTabsOf_queues (b : Nat) (s : State) : QueuesIn s (skipTabsOf b s) := by
  have each (l : List Nat) (w : State) : QueuesIn w (l.foldl (skipFor b) w) := by
    induction l generalizing w with
    | nil => exact .refl w
    | cons i l ih =>
      refine QueuesIn.trans ?_ (ih _)
      rcases skipFor_eq w b i with e | e <;> rw [e]
      · exact .refl w
      · exact skipTab_queues i w
  exact each _ s

theorem Retained.queues {b : Nat} {why : RetainReason} {p : Panel} {r : Board} (retained : Retained b why p r s t) :
    QueuesIn s t := by
  obtain ⟨x, before, now⟩ := retained.disp
  intro k j mem
  rw [State.head, now] at mem
  have kept := skipTabsOf_queues b x k j mem
  rw [State.head, before] at kept
  exact kept

/-! ### A retention (R59) -/

/-- The board states that a retention reaches (R59). -/
def BoardState.retainable (st : BoardState) : Prop := st = .attached ∨ st = .ready ∨ st = .gripWait ∨ st = .gripped

/-- A retention retains the board in full, or leaves the state as it is (R59). -/
theorem retain_cases (b : Nat) (why : RetainReason) (s : State) :
    (retain b why s = s ∧ ∀ r, s.board .active b = some r → ¬ r.state.retainable) ∨
    ∃ p r, s.tracker.active = some p ∧ s.board .active b = some r ∧ r.state.retainable ∧
      retain b why s = retainNow b why s := by
  cases hr : s.board .active b with
  | none => exact .inl ⟨by simp [retain, State.boardState, hr], nofun⟩
  | some r =>
    have state : s.boardState .active b = some r.state := State.boardState_of_board hr
    obtain ⟨p, hp⟩ := State.active_of_board hr
    by_cases reach : r.state.retainable
    · refine .inr ⟨p, r, hp, rfl, reach, ?_⟩
      rcases reach with e | e | e | e <;> simp [retain, state, e]
    · refine .inl ⟨?_, fun q hq => by cases hq; exact reach⟩
      simp only [BoardState.retainable, not_or] at reach
      unfold retain
      split <;> first
        | rfl
        | simp_all

theorem retain_tab_over (b : Nat) (why : RetainReason) (hy : s.tab i = some y)
    (ended : y.state = .done ∨ y.state = .skipped ∨ y.state = .failed) : (retain b why s).tab i = some y := by
  rcases retain_cases b why s with ⟨same, -⟩ | ⟨p, r, hp, hr, -, run⟩
  · rw [same, hy]
  · rw [run]
    exact (retainNow_retained why hp hr).tab_over hy ended

theorem retain_notices (b : Nat) (why : RetainReason) (s : State) : (retain b why s).notices = s.notices := by
  rcases retain_cases b why s with ⟨same, -⟩ | ⟨p, r, hp, hr, -, run⟩
  · rw [same]
  · rw [run]
    exact (retainNow_retained why hp hr).notices

theorem retain_queues (b : Nat) (why : RetainReason) (s : State) : QueuesIn s (retain b why s) := by
  rcases retain_cases b why s with ⟨same, -⟩ | ⟨p, r, hp, hr, -, run⟩
  · rw [same]; exact .refl s
  · rw [run]
    exact (retainNow_retained why hp hr).queues

/-- A board that a retention reaches is RETAINED. -/
theorem retain_reaches {b : Nat} {why : RetainReason} {q : Board} (hq : s.board .active b = some q)
    (reach : q.state.retainable) : (retain b why s).boardState .active b = some (.retained why) := by
  rcases retain_cases b why s with ⟨-, none⟩ | ⟨p, r, hp, hr, -, run⟩
  · exact absurd reach (none q hq)
  · rw [run]
    exact (retainNow_retained why hp hr).boardState

/-- The state of any other board stays. -/
theorem retain_others {b c : Nat} (why : RetainReason) {q : Board} (hc : c ≠ b) (hq : s.board .active c = some q) :
    ∃ n ≤ q.openTabs, (retain b why s).board .active c = some { q with openTabs := n } := by
  rcases retain_cases b why s with ⟨same, -⟩ | ⟨p, r, hp, hr, -, run⟩
  · rw [same, hq]; exact ⟨_, le_rfl, rfl⟩
  · rw [run]
    exact (retainNow_retained why hp hr).others c q hc hq

/-- A board that is RETAINED stays so. -/
theorem retain_stays {b c : Nat} (why now : RetainReason) (h : s.boardState .active c = some (.retained now)) :
    (retain b why s).boardState .active c = some (.retained now) := by
  obtain ⟨q, hq, state⟩ := Option.map_eq_some_iff.1 h
  by_cases e : c = b
  · subst e
    rcases retain_cases c why s with ⟨same, -⟩ | ⟨p, r, hp, hr, reach, -⟩
    · rw [same, h]
    · cases hr.symm.trans hq
      rcases reach with r | r | r | r <;> simp [r] at state
  · obtain ⟨n, -, board⟩ := retain_others why e hq
    rw [State.boardState_of_board board, ← state]

/-! ### The rows without the release flag (R93) -/

/-- A tab that failed: its entry, its notice and the boards it joins (R59, R93). -/
theorem failTab_fails (hy : s.tab i = some y) : (failTab i how s).tab i = some y.failed ∧
    (failTab i how s).notice 7 = (s.notice 7).map (NoticeRec.raise (.tabFailed s.activeId i how)) ∧
    QueuesIn s (failTab i how s) ∧
    ∀ b, b = y.owner ∨ y.linked = some b → ∀ q, s.board .active b = some q → q.state.retainable →
      (failTab i how s).boardState .active b = some (.retained .tabFailed) := by
  set w := s.modTab i Tab.failed with hw
  have run : failTab i how s = raise (.tabFailed s.activeId i how) (retainJoined y .tabFailed w) := by
    simp only [failTab, hy]
    rfl
  have tab : w.tab i = some y.failed := by rw [hw, State.modTab_tab, if_pos rfl, hy]; rfl
  have one := retain_tab_over y.owner .tabFailed tab (.inr (.inr rfl))
  set v := retain y.owner .tabFailed w with hv
  have owner (b : Nat) (hb : b = y.owner) (q : Board) (hq : s.board .active b = some q) (reach : q.state.retainable) :
      v.boardState .active b = some (.retained .tabFailed) := by
    subst hb
    exact retain_reaches (s := w) hq reach
  have told (x : State) (same : x.notices = s.notices) : (raise (.tabFailed s.activeId i how) x).notice 7 =
      (s.notice 7).map (NoticeRec.raise (.tabFailed s.activeId i how)) := by
    rw [← show x.notice 7 = s.notice 7 by rw [State.notice, same, State.notice]]
    exact (raise_notice_once _ x 7).trans (if_pos rfl)
  have first : QueuesIn s v := (QueuesIn.of_heads (t := w) rfl).trans (retain_queues _ _ w)
  rw [run]
  cases hl : y.linked with
  | none =>
    have joined : retainJoined y .tabFailed w = v := by simp [retainJoined, hl, hv]
    rw [joined]
    exact ⟨one, told v (retain_notices ..), first, fun b hb => owner b (hb.resolve_right nofun)⟩
  | some o =>
    have joined : retainJoined y .tabFailed w = retain o .tabFailed v := by simp [retainJoined, hl, hv]
    rw [joined]
    refine ⟨retain_tab_over o .tabFailed one (.inr (.inr rfl)), told _ ((retain_notices ..).trans (retain_notices ..)),
      first.trans (retain_queues _ _ v), fun b hb q hq reach => ?_⟩
    by_cases e : b = y.owner
    · exact retain_stays .tabFailed .tabFailed (owner b e q hq reach)
    · cases hb.resolve_left e
      obtain ⟨n, -, board⟩ := retain_others (s := w) .tabFailed e hq
      exact retain_reaches (s := v) board reach

theorem settleTab_standing (hy : s.tab i = some y) (standing : y.standing = true) :
    settleTab h stopped how i s = markSkipped i .withdrawn s := by
  cases release : y.release <;> simp [settleTab, hy, release, settlePlain, settleReleaseTab, standing]

theorem settleTab_plain_failed (hy : s.tab i = some y) (standing : y.standing = false) (release : y.release = false)
    (tries : s.param .maxAttempts ≤ y.attempts) : settleTab h stopped how i s = failTab i how s := by
  simp [settleTab, hy, release, settlePlain, standing, tries]

theorem settleTab_plain_again (hy : s.tab i = some y) (standing : y.standing = false) (release : y.release = false)
    (tries : y.attempts < s.param .maxAttempts) : settleTab h stopped how i s = requeue h stopped i s := by
  simp [settleTab, hy, release, settlePlain, standing, Nat.not_le.2 tries]

/-! ### The rows with it (R94) -/

section
variable (hy : s.tab i = some y) (standing : y.standing = false) (release : y.release = true)
include hy standing release

theorem settleTab_lifted (early : s.earlyLift y.owner = .lifted) :
    settleTab h stopped how i s = tornBoard y.owner true (markSkipped i .withdrawn s) := by
  simp [settleTab, hy, release, settleReleaseTab, standing, early]

theorem settleTab_dropped (early : s.earlyLift y.owner = .dropped) :
    settleTab h stopped how i s = tornBoard y.owner false (markSkipped i .withdrawn s) := by
  simp [settleTab, hy, release, settleReleaseTab, standing, early]

theorem settleTab_out (early : s.earlyLift y.owner = .out) : settleTab h stopped how i s =
    writePicker .stay (.stay s.activeId y.owner) (s.modTab i fun t =>
      { t with state := .held, cutHead := none, place := none, settlement := some ⟨h, stopped, how⟩ }) := by
  simp [settleTab, hy, release, settleReleaseTab, standing, early]

theorem settleTab_releasing (early : s.earlyLift y.owner = .none) (board : s.boardState .active y.owner = some .releasing) :
    settleTab h stopped how i s = settleRelease h stopped how i s := by
  simp [settleTab, hy, release, settleReleaseTab, standing, early, board]

theorem settleTab_ready (early : s.earlyLift y.owner = .none) (board : s.boardState .active y.owner = some .ready) :
    let w := s.modTab i fun t => { t with state := .held, cutHead := none, place := none }
    settleTab h stopped how i s =
      if s.tracker.pickQueue.contains y.owner = false then joinPickFront y.owner w else w := by
  have here : ∀ f : Tab → Tab, (s.modTab i f).boardState .active y.owner = some .ready := fun _ => board
  simp [settleTab, hy, release, settleReleaseTab, standing, early, board, here]

end

end

end Sys2Proof.Machine
end

section
/-! Open-tab counts at the end of a cut (R56), and a torn board whose service goes on (R134). -/

namespace Sys2Proof.Machine

/-! ### Open-tab counts -/

/-- From s to t no board's open-tab count rises and none ceases to be RETAINED; and none falls, unless one of the boards C becomes
RETAINED (R56, R60). -/
structure Counted (C : Nat → Prop) (s t : State) : Prop where
  falls : ∀ j r, s.board .active j = some r → ∃ y, t.board .active j = some y ∧ y.openTabs ≤ r.openTabs
  retained : ∀ j, s.isRetained j = true → t.isRetained j = true
  exact : (∀ j r, s.board .active j = some r → ∃ y, t.board .active j = some y ∧ y.openTabs = r.openTabs) ∨
    ∃ c, C c ∧ s.isRetained c = false ∧ t.isRetained c = true

section
variable {s t u : State} {C : Nat → Prop}

theorem Counted.trans (a : Counted C s t) (b : Counted C t u) : Counted C s u where
  falls j r hr := by
    obtain ⟨y, hy, le⟩ := a.falls j r hr
    obtain ⟨z, hz, le'⟩ := b.falls j y hy
    exact ⟨z, hz, le'.trans le⟩
  retained j h := b.retained j (a.retained j h)
  exact := by
    rcases a.exact with first | ⟨c, hc, before, now⟩
    · rcases b.exact with second | ⟨c, hc, before, now⟩
      · refine .inl fun j r hr => ?_
        obtain ⟨y, hy, e⟩ := first j r hr
        obtain ⟨z, hz, e'⟩ := second j y hy
        exact ⟨z, hz, e'.trans e⟩
      · refine .inr ⟨c, hc, ?_, now⟩
        cases h : s.isRetained c with
        | false => rfl
        | true => exact absurd (a.retained c h) (by simp [before])
    · exact .inr ⟨c, hc, before, b.retained c now⟩

/-- Work that keeps the boards' open-tab counts, and what is RETAINED. -/
theorem Counted.of_boards (h : ∀ j r, s.board .active j = some r → ∃ y, t.board .active j = some y ∧
    y.openTabs = r.openTabs ∧ (s.isRetained j = true → t.isRetained j = true)) : Counted C s t where
  falls j r hr := by
    obtain ⟨y, hy, e, -⟩ := h j r hr
    exact ⟨y, hy, e.le⟩
  retained j hj := by
    cases hr : s.board .active j with
    | none => simp [State.isRetained, State.boardState, hr] at hj
    | some r =>
      obtain ⟨y, hy, -, kept⟩ := h j r hr
      exact kept hj
  exact := .inl fun j r hr => by
    obtain ⟨y, hy, e, -⟩ := h j r hr
    exact ⟨y, hy, e⟩

theorem State.isRetained_congr (h : t.tracker = s.tracker) (j : Nat) : t.isRetained j = s.isRetained j := by
  simp only [State.isRetained, State.boardState_congr h]

theorem State.isRetained_of_board {j : Nat} {r : Board} (hr : s.board .active j = some r) :
    s.isRetained j = true ↔ ∃ why, r.state = .retained why := by
  rw [State.isRetained, State.boardState_of_board hr]
  cases r.state <;> simp

theorem Counted.of_tracker (h : t.tracker = s.tracker) : Counted C s t := .of_boards fun j r hr =>
  ⟨r, by rw [State.board_congr h, hr], rfl, fun kept => by rw [State.isRetained_congr h, kept]⟩

theorem Counted.refl (s : State) : Counted C s s := .of_tracker rfl

/-- The open-tab counts read through a list of boards that a change leaves the same but for states. -/
theorem Counted.of_board_set {b : Nat} {r q : Board} (hr : s.board .active b = some r) (hq : t.board .active b = some q)
    (counts : q.openTabs = r.openTabs) (kept : s.isRetained b = true → t.isRetained b = true)
    (others : ∀ j, j ≠ b → t.board .active j = s.board .active j) : Counted C s t := by
  refine .of_boards fun j r' hr' => ?_
  by_cases e : j = b
  · subst e
    cases hr.symm.trans hr'
    exact ⟨q, hq, counts, kept⟩
  · refine ⟨r', (others j e).trans hr', rfl, fun h => ?_⟩
    rw [State.isRetained, State.boardState, others j e]
    exact h

/-- A board's state written over one that is not RETAINED. -/
theorem setBoardState_counted {b : Nat} {st : BoardState} {r : Board} (hr : s.board .active b = some r)
    (live : s.isRetained b = false) : Counted C s (setBoardState .active b st s) := by
  refine .of_board_set hr (setBoardState_self s st hr) rfl (fun h => by simp [live] at h) fun j hj => ?_
  rw [setBoardState, State.modBoard_same, if_neg (Ne.symm hj)]

theorem loseBoard_counted (b : Nat) (why : LostReason) (s : State) : Counted C s (loseBoard .active b why s) := by
  unfold loseBoard
  split
  · next p r hp hr =>
    split
    · exact .refl s
    · next live =>
      have lost := loseBoard_lost why hp hr (by simpa using live)
      rw [loseBoard_eq why hp hr (by simpa using live)] at lost
      refine .of_board_set hr lost.board rfl (fun h => ?_) lost.others
      obtain ⟨w, state⟩ := (State.isRetained_of_board hr).1 h
      simp [state, BoardState.terminal] at live
  · exact .refl s

/-- A retention of one of the boards C that is not RETAINED yet. -/
theorem retainNow_counted {b : Nat} {why : RetainReason} {p : Panel} {r : Board} (hb : C b) (hp : s.tracker.active = some p)
    (hr : s.board .active b = some r) (live : s.isRetained b = false) : Counted C s (retainNow b why s) := by
  have retained := retainNow_retained why hp hr
  obtain ⟨n, le, board⟩ := retained.board
  have now : (retainNow b why s).isRetained b = true := (State.isRetained_of_board board).2 ⟨why, rfl⟩
  refine ⟨fun j q hq => ?_, fun j h => ?_, .inr ⟨b, hb, live, now⟩⟩
  · by_cases e : j = b
    · subst e
      cases hr.symm.trans hq
      exact ⟨_, board, le⟩
    · obtain ⟨m, le', other⟩ := retained.others j q e hq
      exact ⟨_, other, le'⟩
  · by_cases e : j = b
    · subst e; exact now
    · cases hq : s.board .active j with
      | none => simp [State.isRetained, State.boardState, hq] at h
      | some q =>
        obtain ⟨m, -, other⟩ := retained.others j q e hq
        exact (State.isRetained_of_board other).2 ((State.isRetained_of_board hq).1 h)

theorem retain_counted {b : Nat} (why : RetainReason) (hb : C b) (s : State) : Counted C s (retain b why s) := by
  rcases retain_cases b why s with ⟨same, -⟩ | ⟨p, r, hp, hr, reach, run⟩
  · rw [same]; exact .refl s
  · rw [run]
    refine retainNow_counted hb hp hr ?_
    cases h : s.isRetained b with
    | false => rfl
    | true =>
      obtain ⟨w, state⟩ := (State.isRetained_of_board hr).1 h
      rcases reach with e | e | e | e <;> simp [e] at state

theorem writePlace_counted (s : State) : Counted C s (writePlace s) := .of_tracker (writePlace_frame s).1

theorem tornBoard_counted (b : Nat) (holding : Bool) (s : State) : Counted C s (tornBoard b holding s) := by
  have lost : Counted C s (releaseSlot s.serviceDest (loseBoard .active b .torn s)) :=
    (loseBoard_counted b .torn s).trans (.of_tracker (releaseSlot_frame _ _).1)
  unfold tornBoard
  dsimp only
  split
  · refine lost.trans (Counted.of_tracker ?_)
    exact (writePlace_frame _).1
  · exact lost.trans ((Counted.of_tracker (releaseContingency_frame _).1).trans (.of_tracker (freeService_rest _).1))

/-- Lowering the counts of a tab's boards takes one from each (R56). -/
theorem lowerCounts_lowersOne {x : Tab} (apart : x.linked ≠ some x.owner) {b : Nat} {q : Board}
    (joined : b = x.owner ∨ x.linked = some b) (hq : s.board .active b = some q) :
    (lowerCounts x s).board .active b = some { q with openTabs := q.openTabs - 1 } := by
  have lower (c : Nat) (w : State) : (lowerBoard c w).board .active b =
      if c = b then (w.board .active b).map (fun r => { r with openTabs := r.openTabs - 1 }) else w.board .active b := by
    rw [lowerBoard, State.modBoard_board]
  unfold lowerCounts
  cases hl : x.linked with
  | none =>
    dsimp only
    rw [lower, if_pos (joined.resolve_right (by simp [hl])).symm, hq]
    rfl
  | some o =>
    dsimp only
    rw [lower, lower, hq]
    rcases joined with rfl | e
    · have other : o ≠ x.owner := fun e => apart (by rw [hl, e])
      rw [if_neg other, if_pos rfl]
      rfl
    · cases hl.symm.trans e
      have other : x.owner ≠ b := fun e => apart (by rw [hl, e])
      rw [if_pos rfl, if_neg other]
      rfl

/-- The counts of a tab's boards once it is over, from the state in which they were lowered (R56). -/
theorem Counted.lowered {x : Tab} (h : Counted (fun b => b = x.owner ∨ x.linked = some b) (lowerCounts x s) t)
    (apart : x.linked ≠ some x.owner) {b : Nat} {q : Board} (joined : b = x.owner ∨ x.linked = some b)
    (hq : s.board .active b = some q) : ∃ y, t.board .active b = some y ∧ y.openTabs ≤ q.openTabs - 1 ∧
      ((∀ c, c = x.owner ∨ x.linked = some c → t.isRetained c = s.isRetained c) → y.openTabs = q.openTabs - 1) := by
  have low := lowerCounts_lowersOne apart joined hq
  obtain ⟨y, hy, le⟩ := h.falls b _ low
  refine ⟨y, hy, le, fun same => ?_⟩
  rcases h.exact with same' | ⟨c, hc, before, now⟩
  · obtain ⟨z, hz, e⟩ := same' b _ low
    cases hy.symm.trans hz
    exact e
  · rw [State.isRetained_of_bare (lowerCounts_bare s x), ← same c hc] at before
    exact absurd (now.symm.trans before) (by simp)

/-- The skip of a tab lowers its boards' counts (R56, R71). -/
theorem markSkipped_lowering {i : Nat} {y : Tab} (why : SkipReason) (hy : s.tab i = some y) : ∃ w, w.tracker = s.tracker ∧
    markSkipped i why s = lowerCounts y w := by
  refine ⟨(leaveLists i s).modTab i (Tab.skipped why), rfl, ?_⟩
  simp only [markSkipped, hy]
  rfl

/-! ### A torn board that the picker holds -/

/-- Trying a PLACE leaves the service but for its window. -/
theorem writePlace_keeps (s : State) : (writePlace s).hand.service.map (fun v => (v.torn, v.dest)) =
    s.hand.service.map fun v => (v.torn, v.dest) := by
  unfold writePlace
  split
  · next v hv =>
    (repeat' split) <;> simp only [State.modService_hand, writePicker_rest, hv, Option.map_some]
    split <;> rfl
  · rfl

theorem tornBoard_holds {v : Service} {b : Nat} {p : Panel} {r : Board} (hv : s.hand.service = some v)
    (hp : s.tracker.active = some p) (hr : s.board .active b = some r) (hs : r.state.terminal = false) :
    (tornBoard b true s).boardState .active b = some (.lost .torn) ∧ (tornBoard b true s).disp = s.disp ∧
      (tornBoard b true s).hand.service.map (fun v => (v.torn, v.dest)) = some (true, .bin) := by
  obtain ⟨u, hu, torn, service, -⟩ := torn_lost hv hp hr hs
  set w := u.modService fun v => { v with torn := true, dest := .bin, index := .notNeeded, window := none } with hw
  have run : tornBoard b true s = writePlace w := by
    simp only [tornBoard, hu, if_true]
    rfl
  obtain ⟨tracker, disp, -⟩ := writePlace_frame w
  rw [run]
  refine ⟨?_, disp.trans torn.disp, ?_⟩
  · rw [State.boardState_congr tracker]
    exact State.boardState_of_board torn.board
  · rw [writePlace_keeps, hw, State.modService_hand, service]
    rfl

/-- The service of the board whose early lift has begun (R132). -/
theorem State.service_of_early {b : Nat} (h : s.earlyLift b ≠ .none) : ∃ v, s.hand.service = some v ∧
    v.panel = s.activeId ∧ v.board = b := by
  unfold State.earlyLift at h
  split at h
  · next v hv =>
    split at h
    · next serves => exact ⟨v, hv, serves⟩
    · exact absurd rfl h
  · exact absurd rfl h

end

end Sys2Proof.Machine
end

section
/-! What the settling of a tab makes of it, its board and the picker's order, for each row of R93 and R94. -/

namespace Sys2Proof.Machine

/-- The open-tab counts of the tab's boards were lowered, and nothing else was done to a count but where a board of it becomes
RETAINED (R56). -/
def LoweredOnce (y : Tab) (s u : State) : Prop :=
  ∃ x : State, x.tracker = s.tracker ∧ Counted (fun b => b = y.owner ∨ y.linked = some b) (lowerCounts y x) u

section
variable {s u t : State} {h : Head} {i : Nat} {y : Tab} {stopped : Bool} {how : CutHow} {p : Panel} {r : Board}

/-- The end of a tab that is SKIPPED: its entry, the queues and the counts. -/
structure SkippedNow (i : Nat) (y : Tab) (s u : State) : Prop where
  tab : u.tab i = some (y.skipped .withdrawn)
  queues : QueuesIn s u
  counts : LoweredOnce y s u

theorem markSkipped_now (hy : s.tab i = some y) : SkippedNow i y s (markSkipped i .withdrawn s) := by
  obtain ⟨w, tracker, run⟩ := markSkipped_lowering .withdrawn hy
  exact ⟨markSkipped_tab .withdrawn hy, markSkipped_queues i .withdrawn s, w, tracker, run ▸ .refl _⟩

/-- What follows a skip within the tracker and the picker. -/
theorem SkippedNow.after (skip : SkippedNow i y s u) (disp : t.disp = u.disp)
    (counts : Counted (fun b => b = y.owner ∨ y.linked = some b) u t) : SkippedNow i y s t := by
  obtain ⟨w, tracker, lowered⟩ := skip.counts
  exact ⟨by rw [State.tab, disp]; exact skip.tab, skip.queues.trans (.of_heads (by rw [disp])), w, tracker,
    lowered.trans counts⟩

section
variable (hy : s.tab i = some y) (hp : s.tracker.active = some p) (hr : s.board .active y.owner = some r)
include hy hp hr

omit hy in
/-- The board of the tab after the skip: its state stands. -/
theorem markSkipped_board : ∃ n ≤ r.openTabs,
    (markSkipped i .withdrawn s).board .active y.owner = some { r with openTabs := n } ∧
      (markSkipped i .withdrawn s).tracker.active = some p := by
  obtain ⟨n, le, board⟩ := markSkipped_owner (i := i) .withdrawn hr
  exact ⟨n, le, board, (markSkipped_active .withdrawn s).trans hp⟩

section
variable (standing : y.standing = false) (release : y.release = true) (hs : r.state = .releasing)
include standing release hs

theorem settles_lifted (early : s.earlyLift y.owner = .lifted) : SkippedNow i y s (settleTab h stopped how i s) ∧
    (settleTab h stopped how i s).boardState .active y.owner = some (.lost .torn) ∧
    (settleTab h stopped how i s).hand.service.map (fun v => (v.torn, v.dest)) = some (true, .bin) := by
  obtain ⟨v, hv, -⟩ := State.service_of_early (s := s) (b := y.owner) (by rw [early]; nofun)
  obtain ⟨n, -, board, active⟩ := markSkipped_board hp hr
  obtain ⟨hand, -⟩ := State.blocks_of_bare (markSkipped_bare s i .withdrawn)
  obtain ⟨state, disp, service⟩ := tornBoard_holds (by rw [hand]; exact hv) active board (by dsimp only; rw [hs]; rfl)
  rw [settleTab_lifted hy standing release early]
  exact ⟨(markSkipped_now hy).after disp (tornBoard_counted _ _ _), state, service⟩

theorem settles_dropped (early : s.earlyLift y.owner = .dropped) : SkippedNow i y s (settleTab h stopped how i s) ∧
    (settleTab h stopped how i s).boardState .active y.owner = some (.lost .torn) ∧
    (settleTab h stopped how i s).hand.service = none := by
  obtain ⟨v, hv, -⟩ := State.service_of_early (s := s) (b := y.owner) (by rw [early]; nofun)
  obtain ⟨n, -, board, active⟩ := markSkipped_board hp hr
  obtain ⟨hand, -⟩ := State.blocks_of_bare (markSkipped_bare s i .withdrawn)
  obtain ⟨torn, service⟩ := tornBoard_dropped (by rw [hand]; exact hv) active board (by dsimp only; rw [hs]; rfl)
  rw [settleTab_dropped hy standing release early]
  exact ⟨(markSkipped_now hy).after torn.disp (tornBoard_counted _ _ _), State.boardState_of_board torn.board, service⟩

omit hp in
theorem settles_out (early : s.earlyLift y.owner = .out) :
    (settleTab h stopped how i s).tab i =
        some { y with state := .held, cutHead := none, place := none, settlement := some ⟨h, stopped, how⟩ } ∧
    QueuesIn s (settleTab h stopped how i s) ∧
    (settleTab h stopped how i s).boardState .active y.owner = some .releasing ∧
    ((settleTab h stopped how i s).node .picker).order = .stay s.activeId y.owner := by
  rw [settleTab_out hy standing release early]
  refine ⟨?_, .of_heads rfl, (State.boardState_of_board hr).trans (by rw [hs]), rfl⟩
  have held := State.modTab_tab s i i fun t =>
    { t with state := .held, cutHead := none, place := none, settlement := some ⟨h, stopped, how⟩ }
  rw [if_pos rfl, hy] at held
  exact held

section
variable (early : s.earlyLift y.owner = .none)
include early

theorem settles_aborted (mark : s.abortMarked = true) : SkippedNow i y s (settleTab h stopped how i s) ∧
    (settleTab h stopped how i s).boardState .active y.owner = some (.retained .aborted) := by
  have mark' : p.abort.isSome = true := by rw [State.abortMarked, hp] at mark; exact mark
  obtain ⟨n, le, board, settles⟩ := settleRelease_aborted h stopped how hy hp mark' hr hs
  obtain ⟨-, -, -, active⟩ := markSkipped_board hp hr
  have retained := retainNow_retained .aborted active board
  have skip := markSkipped_now hy
  rw [settleTab_releasing hy standing release early (by rw [State.boardState_of_board hr, hs]), settles]
  refine ⟨⟨retained.tab_over skip.tab (.inr (.inl rfl)), skip.queues.trans retained.queues, ?_⟩, retained.boardState⟩
  obtain ⟨w, tracker, lowered⟩ := skip.counts
  refine ⟨w, tracker, lowered.trans (retainNow_counted (.inl rfl) active board ?_)⟩
  rw [State.isRetained, State.boardState_of_board board]
  dsimp only
  rw [hs]

theorem settles_release_failed (mark : s.abortMarked = false) (tries : s.param .maxAttempts ≤ y.attempts) :
    (settleTab h stopped how i s).tab i = some y.failed ∧ QueuesIn s (settleTab h stopped how i s) ∧
    (settleTab h stopped how i s).boardState .active y.owner = some (.retained .tabFailed) ∧
    (settleTab h stopped how i s).notice 7 = (s.notice 7).map (NoticeRec.raise (.tabFailed s.activeId i how)) := by
  have mark' : p.abort = none := by simpa [State.abortMarked, hp] using mark
  have id : s.activeId = p.id := by rw [State.activeId, hp]
  have failed : (s.modTab i Tab.failed).tab i = some y.failed := by rw [State.modTab_tab, if_pos rfl, hy]; rfl
  have retained := retainNow_retained (s := s.modTab i Tab.failed) .tabFailed hp hr
  rw [settleTab_releasing hy standing release early (by rw [State.boardState_of_board hr, hs]),
    settleRelease_failed h stopped how hy hp mark' tries hr hs, id]
  refine ⟨retained.tab_over failed (.inr (.inr rfl)), QueuesIn.trans (t := s.modTab i Tab.failed) (.of_heads rfl)
    retained.queues, retained.boardState, ?_⟩
  refine (raise_notice_once _ _ 7).trans ((if_pos rfl).trans ?_)
  rw [State.notice, retained.notices]
  rfl

theorem settles_release_again (mark : s.abortMarked = false) (tries : y.attempts < s.param .maxAttempts) :
    settleTab h stopped how i s = requeue h stopped i (setBoardState .active y.owner .gripped s) := by
  have mark' : p.abort = none := by simpa [State.abortMarked, hp] using mark
  rw [settleTab_releasing hy standing release early (by rw [State.boardState_of_board hr, hs])]
  exact settleRelease_again h stopped how hy hp mark' tries hr hs

end

end

omit hp in
theorem settles_ready (standing : y.standing = false) (release : y.release = true) (hs : r.state = .ready)
    (early : s.earlyLift y.owner = .none) :
    (settleTab h stopped how i s).tab i = some { y with state := .held, cutHead := none, place := none } ∧
    QueuesIn s (settleTab h stopped how i s) ∧
    (settleTab h stopped how i s).boardState .active y.owner = some .ready ∧
    (settleTab h stopped how i s).tracker.pickQueue =
      if y.owner ∈ s.tracker.pickQueue then s.tracker.pickQueue else y.owner :: s.tracker.pickQueue := by
  have board : s.boardState .active y.owner = some .ready := by rw [State.boardState_of_board hr, hs]
  have held := State.modTab_tab s i i fun t => { t with state := .held, cutHead := none, place := none }
  rw [if_pos rfl, hy] at held
  rw [settleTab_ready hy standing release early board]
  split
  · next out =>
    refine ⟨held, .of_heads rfl, board, ?_⟩
    rw [if_neg (by simpa using out)]
    rfl
  · next present =>
    refine ⟨held, .of_heads rfl, board, ?_⟩
    rw [if_pos (by simpa using present)]
    rfl

end

/-- A plain tab or a release one with a skip standing is SKIPPED (R93, R94). -/
theorem settles_standing (hy : s.tab i = some y) (standing : y.standing = true) :
    SkippedNow i y s (settleTab h stopped how i s) := by
  rw [settleTab_standing hy standing]
  exact markSkipped_now hy

end

end Sys2Proof.Machine
end

section
/-! A tab that is DONE reported to its boards (R56, R64, R66, R90, R130). -/

namespace Sys2Proof.Machine

/-- What a test for readiness leaves beside the board it tests (R57, R58). -/
structure ReadyTested (C : Nat → Prop) (s t : State) : Prop where
  tab : ∀ i y, s.tab i = some y → y.state = .done ∨ y.state = .skipped ∨ y.state = .failed → t.tab i = some y
  queues : QueuesIn s t
  boards : ∀ c q, s.board .active c = some q → q.state ≠ .attached →
    ∃ y, t.board .active c = some y ∧ y.state = q.state
  picker : t.node .picker = s.node .picker
  notice : t.notice 15 = s.notice 15
  counts : Counted C s t

section
variable {s t u : State} {C : Nat → Prop}

theorem ReadyTested.refl (s : State) : ReadyTested C s s :=
  ⟨fun _ _ h _ => h, .refl s, fun _ q h _ => ⟨q, h, rfl⟩, rfl, rfl, .refl s⟩

theorem ReadyTested.trans (a : ReadyTested C s t) (b : ReadyTested C t u) : ReadyTested C s u where
  tab i y hy ended := b.tab i y (a.tab i y hy ended) ended
  queues := a.queues.trans b.queues
  boards c q hq live := by
    obtain ⟨y, hy, state⟩ := a.boards c q hq live
    obtain ⟨z, hz, state'⟩ := b.boards c y hy (by rw [state]; exact live)
    exact ⟨z, hz, state'.trans state⟩
  picker := b.picker.trans a.picker
  notice := b.notice.trans a.notice
  counts := a.counts.trans b.counts

/-- An ATTACHED board that is retained: the picker is away from it (R59, R61). -/
theorem retain_attached {b : Nat} {r : Board} (why : RetainReason) (hb : C b) (hr : s.board .active b = some r)
    (hs : r.state = .attached) : ReadyTested C s (retain b why s) := by
  obtain ⟨p, hp⟩ := State.active_of_board hr
  have run : retain b why s = retainNow b why s := by simp [retain, State.boardState_of_board hr, hs]
  have retained := retainNow_retained why hp hr
  refine ⟨fun i y hy ended => retain_tab_over b why hy ended, retain_queues b why s, fun c q hq live => ?_, ?_,
    by rw [State.notice, retain_notices, State.notice], retain_counted why hb s⟩
  · have other : c ≠ b := fun e => by
      subst e
      cases hr.symm.trans hq
      exact live hs
    obtain ⟨n, -, board⟩ := retain_others why other hq
    exact ⟨_, board, rfl⟩
  · have ring := (retaining_hand s b why r).2
    rw [run, retainNow_away why hp hr (.inl (by rw [hs]; rfl))]
    simp only [State.node, ring]

/-- An ATTACHED board that becomes READY and joins the pick queue (R57, R58). -/
theorem modBoard_tested {b : Nat} {r : Board} {f : Board → Board} (hr : s.board .active b = some r)
    (hs : r.state = .attached) (counts : (f r).openTabs = r.openTabs) : ReadyTested C s (s.modBoard .active b f) := by
  obtain ⟨x, y, written⟩ := s.modBoard_tracker .active b f
  have others (c : Nat) (hc : c ≠ b) : (s.modBoard .active b f).board .active c = s.board .active c := by
    rw [State.modBoard_same, if_neg (Ne.symm hc)]
  refine ⟨fun i y hy _ => by rw [written]; exact hy, .of_heads (by rw [written]), fun c q hq live => ?_, by rw [written]; rfl,
    by rw [written]; rfl, .of_board_set hr (s.modBoard_self f hr) counts (fun h => ?_) others⟩
  · have other : c ≠ b := fun e => by
      subst e
      cases hr.symm.trans hq
      exact live hs
    exact ⟨q, (others c other).trans hq, rfl⟩
  · obtain ⟨w, state⟩ := (State.isRetained_of_board hr).1 h
    simp [hs] at state

/-- Work that keeps the tracker's tables, the dispatcher and the picker's node. -/
theorem ReadyTested.of_same (boards : ∀ c, t.board .active c = s.board .active c) (disp : t.disp = s.disp)
    (picker : t.node .picker = s.node .picker) (notice : t.notice 15 = s.notice 15) : ReadyTested C s t :=
  ⟨fun i y hy _ => by rw [State.tab, disp]; exact hy, .of_heads (by rw [disp]), fun c q hq _ => ⟨q, (boards c).trans hq, rfl⟩,
    picker, notice, .of_boards fun j r hr => ⟨r, (boards j).trans hr, rfl, fun h => by
      rw [State.isRetained, State.boardState, boards j]; exact h⟩⟩

theorem reserveBin_tested (s : State) : ReadyTested C s (reserveBin s) := by
  unfold reserveBin
  dsimp only
  split
  · exact .of_same (fun _ => rfl) rfl rfl (raise_notice _ _ 15)
  · exact .of_same (fun _ => rfl) rfl rfl rfl

theorem testReady_tested {b : Nat} (hb : C b) (s : State) : ReadyTested C s (testReady b s) := by
  have joins (w : State) : ReadyTested C w (joinPickBack b w) := .of_same (fun _ => rfl) rfl rfl rfl
  unfold testReady
  split
  · exact .refl s
  next r hr =>
  split
  · next ready =>
    have attached : r.state = .attached := by
      simp only [State.readyTest, Bool.and_eq_true, beq_iff_eq] at ready
      exact ready.1.1
    split
    · exact retain_attached _ hb hr attached
    split
    · split
      · exact (modBoard_tested hr attached rfl).trans ((reserveBin_tested _).trans (joins _))
      · refine (retain_attached _ hb hr attached).trans (.of_same (fun _ => rfl) rfl rfl (raise_notice _ _ 15))
    · exact (modBoard_tested (f := fun r => { r with state := .ready }) hr attached rfl).trans (joins _)
  · exact .refl s

/-- The tests that close a report (R90). -/
def testJoined (x : Tab) (s : State) : State :=
  match x.linked with
  | some o => testReady o (testReady x.owner s)
  | none => testReady x.owner s

theorem testJoined_tested (x : Tab) (s : State) :
    ReadyTested (fun b => b = x.owner ∨ x.linked = some b) s (testJoined x s) := by
  unfold testJoined
  split
  · next o ho => exact (testReady_tested (.inl rfl) s).trans (testReady_tested (.inr ho) _)
  · exact testReady_tested (.inl rfl) s

theorem reportDone_eq (x : Tab) (s : State) : reportDone x s =
    testJoined x (if x.release then releaseDone x.owner (lowerCounts x s) else lowerCounts x s) := by
  unfold reportDone testJoined
  cases x.linked <;> rfl

/-! ### The release tab's board (R64, R66, R130) -/

variable {b : Nat} {p : Panel} {r : Board}

theorem releaseDone_disp (b : Nat) (s : State) : (releaseDone b s).disp = s.disp := by
  have set (st : BoardState) (w : State) : (setBoardState .active b st w).disp = w.disp := w.modBoard_disp .active b _
  have lose (why : LostReason) (w : State) : (loseBoard .active b why w).disp = w.disp := by
    unfold loseBoard
    split
    · next p r hp hr =>
      split
      · rfl
      · next live =>
        have lost := loseBoard_lost why hp hr (by simpa using live)
        rw [loseBoard_eq why hp hr (by simpa using live)] at lost
        exact lost.disp
    · rfl
  unfold releaseDone
  split
  · dsimp only
    split
    · rw [(writeLift_frame _).2.1, set]
    · rw [(releaseContingency_frame _).2.1, set]
    · rw [(writePlace_frame _).2.1, set, (releaseContingency_frame _).2.1, set]
    · rw [dropLifted, (freeService_rest _).2.1, (releaseSlot_frame _ _).2.1, lose, (releaseContingency_frame _).2.1, set]
  · exact lose _ s
  · rfl

theorem releaseDone_counted (b : Nat) (s : State) : Counted C s (releaseDone b s) := by
  cases hr : s.board .active b with
  | none =>
    have same : releaseDone b s = s := by simp [releaseDone, State.boardState, hr]
    rw [same]; exact .refl s
  | some r =>
    have write (w : State) (st now : BoardState) (board : w.board .active b = some { r with state := st })
        (live : ∀ why, st ≠ .retained why) : Counted C w (setBoardState .active b now w) := by
      refine setBoardState_counted board ?_
      cases h : w.isRetained b with
      | false => rfl
      | true =>
        obtain ⟨why, e⟩ := (State.isRetained_of_board board).1 h
        exact absurd e (live why)
    unfold releaseDone
    split
    · next state =>
      have releasing : r.state = .releasing := by
        rw [State.boardState_of_board hr] at state
        exact Option.some.inj state
      have free := write s .releasing .free (by rw [hr, ← releasing]) nofun
      have board : (setBoardState .active b .free s).board .active b = some { r with state := .free } :=
        setBoardState_self s .free hr
      have released := free.trans (.of_tracker (releaseContingency_frame (setBoardState .active b .free s)).1)
      dsimp only
      split
      · exact free.trans (.of_tracker (writeLift_frame _).1)
      · exact released
      · refine released.trans (Counted.trans (write _ .free .inTransit ?_ nofun) (writePlace_counted _))
        rw [State.board_congr (releaseContingency_frame _).1, board]
      · refine released.trans ((loseBoard_counted b .dropped _).trans (.of_tracker ?_))
        exact (freeService_rest _).1.trans (releaseSlot_frame _ _).1
    · exact loseBoard_counted b _ s
    · exact .refl s

section
variable (hr : s.board .active b = some r) (hs : r.state = .releasing)
include hr hs

/-- A RELEASING board that the picker waits at is FREE, and its LIFT is written in RUN (R64, R130). -/
theorem releaseDone_frees (early : s.earlyLift b = .none) : (releaseDone b s).boardState .active b = some .free ∧
    ∀ v, s.hand.service = some v → v.panel = s.activeId → v.board = b → s.running = true →
      s.hand.picker.order = none → s.hand.picker.state = .serving →
      ((releaseDone b s).node .picker).order = .lift v.panel v.board := by
  obtain ⟨x, y, written⟩ := setBoardState_tracker s .active b .free
  have board := setBoardState_self s .free hr
  set u := setBoardState .active b .free s with hu
  have same : u.earlyLift b = s.earlyLift b := by rw [written]; rfl
  have run : releaseDone b s = writeLift u := by
    simp only [releaseDone, State.boardState_of_board hr, hs, ← hu, same, early]
  rw [run]
  refine ⟨(State.boardState_congr (writeLift_frame u).1 .active b).trans (State.boardState_of_board board),
    fun v hv panel serves running order serving => ?_⟩
  obtain ⟨p, hp⟩ := State.active_of_board hr
  have id : p.id = v.panel := by rw [panel, State.activeId, hp]
  have service : u.hand.service = some v := by rw [written]; exact hv
  have ref : u.panelRef v.panel = some .active := State.panelRef_active (by rw [written]; exact hp) id
  have free : u.servedState v = some .free := by
    rw [State.servedState, ref, serves]
    exact State.boardState_of_board board
  have waits : v.early = .none := by
    rw [State.earlyLift, hv] at early
    dsimp only at early
    rwa [if_pos ⟨panel, serves⟩] at early
  have due : u.running = true ∧ u.servedState v = some .free ∧ v.early = .none ∧ u.hand.picker.order = none ∧
      u.hand.picker.state = .serving :=
    ⟨by rw [written]; exact running, free, waits, by rw [written]; exact order, by rw [written]; exact serving⟩
  have writes : writeLift u = writePicker .lift (.lift v.panel v.board) u := by
    simp only [writeLift, service]
    exact if_pos due
  rw [writes]
  rfl

theorem releaseDone_out (early : s.earlyLift b = .out) : (releaseDone b s).boardState .active b = some .free := by
  obtain ⟨x, y, written⟩ := setBoardState_tracker s .active b .free
  have board := setBoardState_self s .free hr
  set u := setBoardState .active b .free s with hu
  have same : u.earlyLift b = s.earlyLift b := by rw [written]; rfl
  have run : releaseDone b s = releaseContingency u := by
    simp only [releaseDone, State.boardState_of_board hr, hs, ← hu, same, early]
  rw [run, State.boardState_congr (releaseContingency_frame u).1, State.boardState_of_board board]

theorem releaseDone_lifted (early : s.earlyLift b = .lifted) :
    (releaseDone b s).boardState .active b = some .inTransit := by
  obtain ⟨x, y, written⟩ := setBoardState_tracker s .active b .free
  have board := setBoardState_self s .free hr
  set u := setBoardState .active b .free s with hu
  have same : u.earlyLift b = s.earlyLift b := by rw [written]; rfl
  have run : releaseDone b s = writePlace (setBoardState .active b .inTransit (releaseContingency u)) := by
    simp only [releaseDone, State.boardState_of_board hr, hs, ← hu, same, early]
  have freed : (releaseContingency u).board .active b = some { r with state := .free } :=
    (State.board_congr (releaseContingency_frame u).1 .active b).trans board
  rw [run, State.boardState_congr (writePlace_frame _).1, State.boardState_of_board (setBoardState_self _ .inTransit freed)]

theorem releaseDone_dropped (early : s.earlyLift b = .dropped) :
    (releaseDone b s).boardState .active b = some (.lost .dropped) := by
  obtain ⟨x, y, written⟩ := setBoardState_tracker s .active b .free
  have board := setBoardState_self s .free hr
  set u := setBoardState .active b .free s with hu
  have same : u.earlyLift b = s.earlyLift b := by rw [written]; rfl
  have run : releaseDone b s = dropLifted .active b (releaseContingency u) := by
    simp only [releaseDone, State.boardState_of_board hr, hs, ← hu, same, early]
  obtain ⟨p, hp⟩ := State.active_of_board hr
  have tracker := (releaseContingency_frame u).1
  have active : (releaseContingency u).panel .active = some p := by
    rw [State.panel, tracker, written]
    exact hp
  have freed : (releaseContingency u).board .active b = some { r with state := .free } :=
    (State.board_congr tracker .active b).trans board
  have lost := loseBoard_lost .dropped active freed rfl
  rw [run, dropLifted, State.boardState_congr ((freeService_rest _).1.trans (releaseSlot_frame _ _).1),
    State.boardState_of_board lost.board]

end

/-- A board that a picker fault made READY is LOST (R66). -/
theorem releaseDone_ready (hr : s.board .active b = some r) (hs : r.state = .ready) :
    (releaseDone b s).boardState .active b = some (.lost .pickerFault) ∧
      (releaseDone b s).notice 15 = (s.notice 15).map (NoticeRec.raise (.boardLost s.activeId b .pickerFault)) := by
  obtain ⟨p, hp⟩ := State.active_of_board hr
  have id : s.activeId = p.id := by rw [State.activeId, hp]
  have lost := loseBoard_lost .pickerFault (ref := .active) hp hr (by rw [hs]; rfl)
  have run : releaseDone b s = loseBoard .active b .pickerFault s := by
    simp only [releaseDone, State.boardState_of_board hr, hs]
  rw [run, id]
  exact ⟨State.boardState_of_board lost.board, (lost.notice 15).trans (if_pos rfl)⟩

end

end Sys2Proof.Machine
end

section
/-! The ends of a cut by DONE and by STOPPED (R90, R92 to R94, R109), to the head's next state. -/

namespace Sys2Proof.Machine

/-- A head's cut is in hand: it cuts tab i, x, or is stopping that cut, and the tab does not stand in its queue. -/
structure CutInHand (h : Head) (i : Nat) (x : Tab) (s : State) : Prop where
  state : (s.head h).state = .cutting ∨ (s.head h).state = .stopping
  names : (s.head h).tab = some i
  tab : s.tab i = some x
  out : i ∉ (s.head h).queue

/-- The entry of a tab that is DONE (R90). -/
def Tab.doneBy (h : Head) (x : Tab) : Tab :=
  { x with state := .done, standing := false, place := none, cutHead := none, lastCut := some (h, x.feed) }

section
variable {s w u : State} {h : Head} {i : Nat} {x : Tab} {f : Tab → Tab} (cut : CutInHand h i x s)

theorem CutInHand.serves (cut : CutInHand h i x s) : (s.head h).state.inService = true := by
  rcases cut.state with e | e <;> rw [e] <;> rfl

/-- The tracker's part of a cut's end leaves the head as the end of its order did. -/
theorem CutOver.kept (ends : CutOver h i f s w) (work : TrackerWork w u) :
    (u.head h).kept = { s.head h with state := .idle, queue := [], tab := none, cause := none, timer := none } := by
  rw [HeadRec.kept_of_bare (work.heads h), ends.head]
  rfl

theorem CutOver.state (ends : CutOver h i f s w) (work : TrackerWork w u) : (u.head h).state = (s.head h).state := by
  rw [HeadRec.state_of_bare (work.heads h), ends.head]

theorem CutOver.queue (ends : CutOver h i f s w) : (w.head h).queue = (s.head h).queue := by rw [ends.head]

include cut in
/-- How the head ends: free of the tab, and IDLE or with the change that is due begun (R90, R92, R109). -/
theorem CutOver.idles (ends : CutOver h i f s w) (work : TrackerWork w u) :
    ((headIdle h u).head h).tab = none ∧ ((headIdle h u).head h).cause = none ∧ ((headIdle h u).head h).timer = none ∧
    (if (headIdle h u).due h = true then ((headIdle h u).head h).state = .changing ∨ ((headIdle h u).head h).state = .noTool
      else ((headIdle h u).head h).state = .idle) ∧
    ∀ j, j ∉ (u.head h).queue → (headIdle h u).tab j = u.tab j := by
  have own := headIdle_own h u
  have kept := (own.kept h).trans (ends.kept work)
  have due : (headIdle h u).due h = u.due h := by rw [State.due, own.due, State.due]
  have fields {α : Type} (g : HeadRec → α) := congrArg g kept
  refine ⟨fields HeadRec.tab, fields HeadRec.cause, fields HeadRec.timer, ?_, fun j hj => ?_⟩
  · rw [due]
    split
    · next begins => exact headIdle_due begins
    · next stays =>
      rw [headIdle_idle (by simpa using stays), setHeadState_head]
  · exact headIdle_tab (by rw [ends.state work]; exact cut.serves) hj

/-! ### DONE -/

theorem cutDone_eq (names : (s.head h).tab = some i) (hx : s.tab i = some x) : ∃ mm,
    cutDone h s = headIdle h (reportDone x (cutOver h i (Tab.doneBy h) mm s)) := by
  simp only [cutDone, names, hx]
  exact ⟨_, rfl⟩

/-- What a report of the tab leaves of its entry and its boards' counts. -/
theorem reportDone_now {y : Tab} (hy : w.tab i = some y) (ended : y.state = .done) :
    (reportDone x w).tab i = some y ∧ QueuesIn w (reportDone x w) ∧ LoweredOnce x w (reportDone x w) := by
  set v := if x.release then releaseDone x.owner (lowerCounts x w) else lowerCounts x w with hv
  have disp : v.disp = w.disp := by
    rw [hv]
    split
    · rw [releaseDone_disp, lowerCounts_disp]
    · rw [lowerCounts_disp]
  have counted : Counted (fun b => b = x.owner ∨ x.linked = some b) (lowerCounts x w) v := by
    rw [hv]
    split
    · exact releaseDone_counted _ _
    · exact .refl _
  have tested := testJoined_tested x v
  rw [reportDone_eq, ← hv]
  exact ⟨tested.tab i y (by rw [State.tab, disp]; exact hy) (.inl ended),
    (QueuesIn.of_heads (by rw [disp])).trans tested.queues, w, rfl, counted.trans tested.counts⟩

/-- The owner's board of a release tab that is DONE, at the end of the report. -/
theorem reportDone_board {b : BoardState} (release : x.release = true) (live : b ≠ .attached)
    (done : (releaseDone x.owner (lowerCounts x w)).boardState .active x.owner = some b) :
    (reportDone x w).boardState .active x.owner = some b := by
  obtain ⟨q, hq, state⟩ := Option.map_eq_some_iff.1 done
  obtain ⟨y, hy, same⟩ := (testJoined_tested x _).boards _ q hq (by rw [state]; exact live)
  rw [reportDone_eq, if_pos release, State.boardState_of_board hy, same, state]

end

section
variable {s : State} {h : Head} {i : Nat} {x : Tab} {r : Board} (cut : CutInHand h i x s)
  (hr : s.board .active x.owner = some r)
include cut

/-- A cut that ends DONE (R90): the head and the counts. -/
theorem cutDone_ends : ((cutDone h s).head h).tab = none ∧ ((cutDone h s).head h).cause = none ∧
    ((cutDone h s).head h).timer = none ∧
    (if (cutDone h s).due h = true then ((cutDone h s).head h).state = .changing ∨ ((cutDone h s).head h).state = .noTool
      else ((cutDone h s).head h).state = .idle) ∧
    (cutDone h s).tab i = some { x.doneBy h with peak := some ((s.filter h).peak.getD 0) } ∧
    LoweredOnce x s (cutDone h s) := by
  obtain ⟨mm, run⟩ := cutDone_eq cut.names cut.tab
  have ends := cutOver_over h i (Tab.doneBy h) mm s
  set w := cutOver h i (Tab.doneBy h) mm s
  obtain ⟨entry, queues, v, tracker, counts⟩ := reportDone_now (x := x) (ends.tab x cut.tab) rfl
  obtain ⟨tab, cause, timer, state, tabs⟩ := ends.idles cut (reportDone_work x w)
  have own := headIdle_own h (reportDone x w)
  rw [run]
  refine ⟨tab, cause, timer, state, (tabs i fun mem => cut.out ?_).trans entry, v, tracker.trans ends.tracker,
    counts.trans (.of_tracker own.tracker)⟩
  rw [← ends.queue]
  exact queues h i mem

include hr

/-- The board of a release tab that is DONE (R64, R66, R130). -/
theorem cutDone_board (release : x.release = true) :
    (r.state = .releasing →
      (s.earlyLift x.owner = .none → (cutDone h s).boardState .active x.owner = some .free ∧
        ∀ v, s.hand.service = some v → v.panel = s.activeId → v.board = x.owner → s.running = true →
          s.hand.picker.order = none → s.hand.picker.state = .serving →
          ((cutDone h s).node .picker).order = .lift v.panel v.board) ∧
      (s.earlyLift x.owner = .out → (cutDone h s).boardState .active x.owner = some .free) ∧
      (s.earlyLift x.owner = .lifted → (cutDone h s).boardState .active x.owner = some .inTransit) ∧
      (s.earlyLift x.owner = .dropped → (cutDone h s).boardState .active x.owner = some (.lost .dropped))) ∧
    (r.state = .ready → (cutDone h s).boardState .active x.owner = some (.lost .pickerFault) ∧
      (cutDone h s).notice 15 = (s.notice 15).map (NoticeRec.raise (.boardLost s.activeId x.owner .pickerFault))) := by
  obtain ⟨mm, run⟩ := cutDone_eq cut.names cut.tab
  have ends := cutOver_over h i (Tab.doneBy h) mm s
  set w := cutOver h i (Tab.doneBy h) mm s
  have own := headIdle_own h (reportDone x w)
  obtain ⟨n, -, low⟩ := lowerCounts_lowers x w x.owner r ((State.board_congr ends.tracker .active _).trans hr)
  obtain ⟨hand, ring, notices, lines, -⟩ := State.blocks_of_bare (lowerCounts_bare w x)
  have id : (lowerCounts x w).activeId = s.activeId := by
    have active := State.tracker_of_bare (lowerCounts_bare w x)
    rw [State.activeId, active, ends.tracker, State.activeId]
  have hand : (lowerCounts x w).hand = s.hand := hand.trans ends.hand
  have early : (lowerCounts x w).earlyLift x.owner = s.earlyLift x.owner := by
    simp only [State.earlyLift, hand, id]
  have running : (lowerCounts x w).running = s.running := by rw [State.running, lines, ends.lines, State.running]
  have board {b : BoardState} (live : b ≠ .attached)
      (done : (releaseDone x.owner (lowerCounts x w)).boardState .active x.owner = some b) :
      (cutDone h s).boardState .active x.owner = some b := by
    rw [run, State.boardState_congr own.tracker]
    exact reportDone_board release live done
  have tested := testJoined_tested x (releaseDone x.owner (lowerCounts x w))
  have report : reportDone x w = testJoined x (releaseDone x.owner (lowerCounts x w)) := by
    rw [reportDone_eq, if_pos release]
  refine ⟨fun hs => ⟨fun e => ?_, fun e => ?_, fun e => ?_, fun e => ?_⟩, fun hs => ?_⟩
  · obtain ⟨free, lift⟩ := releaseDone_frees low hs (early.trans e)
    refine ⟨board nofun free, fun v hv panel serves runs order serving => ?_⟩
    rw [run, own.picker, report, tested.picker]
    exact lift v (by rw [hand, hv]) (by rw [id, panel]) serves (running.trans runs) (by rw [hand, order]) (by rw [hand, serving])
  · exact board nofun (releaseDone_out low hs (early.trans e))
  · exact board nofun (releaseDone_lifted low hs (early.trans e))
  · exact board nofun (releaseDone_dropped low hs (early.trans e))
  · obtain ⟨lost, told⟩ := releaseDone_ready low hs
    refine ⟨board nofun lost, ?_⟩
    rw [run, own.notice 15 (by decide) (by decide), report, tested.notice, told, id, State.notice, notices, ends.notices,
      State.notice]

end

end Sys2Proof.Machine
end

section
/-! A cut that ends without DONE, in whatever row of R93 and R94 its tab is settled; and the end by STOPPED (R92). -/

namespace Sys2Proof.Machine

/-- How a tab's cutting has gone: its attempts, its feed class and its peak. -/
def Tab.progress (t : Tab) : Nat × Nat × Option Nat := (t.attempts, t.feed, t.peak)

/-- A tab that is settled without being skipped is QUEUED, HELD or FAILED (R93, R94). -/
def Tab.goesOn (t : Tab) : Prop := t.state = .queued ∨ t.state = .held ∨ t.state = .failed

section
variable {s t u w : State} {h : Head} {i : Nat} {x y : Tab} {stopped : Bool} {how : CutHow}

/-- A tab settled: SKIPPED with the counts lowered, or of another state with its progress kept. -/
inductive Settled (i : Nat) (y : Tab) (s u : State) : Prop
  | skipped (skip : SkippedNow i y s u)
  | goesOn (z : Tab) (tab : u.tab i = some z) (progress : z.progress = y.progress) (goes : z.goesOn)

theorem requeue_settled (hy : s.tab i = some y) : Settled i y s (requeue h stopped i s) := by
  obtain ⟨place, e, put⟩ := requeue_puts h stopped hy
  rw [put]
  exact .goesOn _ (putTab_entry (s := { s with ev := e }) hy) rfl (.inl rfl)

theorem failTab_settled (hy : s.tab i = some y) : Settled i y s (failTab i how s) :=
  .goesOn _ (failTab_fails hy).1 rfl (.inr (.inr rfl))

theorem modTab_entry (f : Tab → Tab) (hy : s.tab i = some y) : (s.modTab i f).tab i = some (f y) := by
  rw [State.modTab_tab, if_pos rfl, hy]
  rfl

theorem retainReleasing_cases (b : Nat) (why : RetainReason) (s : State) : retainReleasing b why s = s ∨
    ∃ p r, s.tracker.active = some p ∧ s.board .active b = some r ∧ r.state = .releasing ∧
      retainReleasing b why s = retainNow b why s := by
  by_cases e : s.boardState .active b = some .releasing
  · obtain ⟨r, hr, state⟩ := Option.map_eq_some_iff.1 e
    obtain ⟨p, hp⟩ := State.active_of_board hr
    exact .inr ⟨p, r, hp, hr, state, if_pos e⟩
  · exact .inl (if_neg e)

theorem settleRelease_settled (hy : s.tab i = some y) : Settled i y s (settleRelease h stopped how i s) := by
  unfold settleRelease
  simp only [hy]
  split
  · have skip := markSkipped_now hy
    refine .skipped ?_
    rcases retainReleasing_cases y.owner .aborted (markSkipped i .withdrawn s) with same | ⟨p, r, hp, hr, hs, run⟩
    · rw [same]; exact skip
    · have retained := retainNow_retained .aborted hp hr
      obtain ⟨v, tracker, lowered⟩ := skip.counts
      rw [run]
      refine ⟨retained.tab_over skip.tab (.inr (.inl rfl)), skip.queues.trans retained.queues, v, tracker,
        lowered.trans (retainNow_counted (.inl rfl) hp hr ?_)⟩
      rw [State.isRetained, State.boardState_of_board hr, hs]
  split
  · have failed := modTab_entry Tab.failed hy
    refine .goesOn y.failed ?_ rfl (.inr (.inr rfl))
    rcases retainReleasing_cases y.owner .tabFailed (s.modTab i Tab.failed) with same | ⟨p, r, hp, hr, hs, run⟩
    · exact (congrArg (fun v => State.tab v i) same).trans failed
    · exact (congrArg (fun v => State.tab v i) run).trans
        ((retainNow_retained .tabFailed hp hr).tab_over failed (.inr (.inr rfl)))
  · have tab : (backToGripped y.owner s).tab i = some y := by
      unfold backToGripped
      split
      · rw [State.tab, setBoardState, State.modBoard_disp]; exact hy
      · exact hy
    cases requeue_settled (h := h) (stopped := stopped) tab with
    | goesOn z tab progress goes => exact .goesOn z tab progress goes
    | skipped skip =>
      obtain ⟨place, e, put⟩ := requeue_puts h stopped tab
      have queued := putTab_entry (s := { backToGripped y.owner s with ev := e }) (place := place) (front := true) tab
      rw [← put, skip.tab] at queued
      exact absurd (congrArg Tab.state (Option.some.inj queued)) nofun

/-- Whatever its row, the tab is settled (R93, R94). -/
theorem settleTab_settled (hy : s.tab i = some y) : Settled i y s (settleTab h stopped how i s) := by
  cases standing : y.standing with
  | true => rw [settleTab_standing hy standing]; exact .skipped (markSkipped_now hy)
  | false =>
    cases release : y.release with
    | false =>
      rcases Nat.lt_or_ge y.attempts (s.param .maxAttempts) with few | spent
      · rw [settleTab_plain_again hy standing release few]; exact requeue_settled hy
      · rw [settleTab_plain_failed hy standing release spent]; exact failTab_settled hy
    | true =>
      have skip := markSkipped_now hy
      have torn (holding : Bool) : Settled i y s (tornBoard y.owner holding (markSkipped i .withdrawn s)) := by
        have disp : (tornBoard y.owner holding (markSkipped i .withdrawn s)).disp = (markSkipped i .withdrawn s).disp := by
          have lose (v : State) : (loseBoard .active y.owner .torn v).disp = v.disp := by
            unfold loseBoard
            split
            · next p r hp hr =>
              split
              · rfl
              · next live =>
                have lost := loseBoard_lost .torn hp hr (by simpa using live)
                rw [loseBoard_eq .torn hp hr (by simpa using live)] at lost
                exact lost.disp
            · rfl
          unfold tornBoard
          dsimp only
          split
          · rw [(writePlace_frame _).2.1, State.modService_disp, (releaseSlot_frame _ _).2.1, lose]
          · rw [(freeService_rest _).2.1, (releaseContingency_frame _).2.1, (releaseSlot_frame _ _).2.1, lose]
        exact .skipped (skip.after disp (tornBoard_counted _ _ _))
      cases early : s.earlyLift y.owner with
      | lifted => rw [settleTab_lifted hy standing release early]; exact torn true
      | dropped => rw [settleTab_dropped hy standing release early]; exact torn false
      | out =>
        rw [settleTab_out hy standing release early]
        exact .goesOn _ (modTab_entry (fun t => { t with
          state := .held, cutHead := none, place := none, settlement := some ⟨h, stopped, how⟩ }) hy) rfl (.inr (.inl rfl))
      | none =>
        by_cases board : s.boardState .active y.owner = some .releasing
        · rw [settleTab_releasing hy standing release early board]
          exact settleRelease_settled hy
        · have held := modTab_entry (fun t => { t with state := .held, cutHead := none, place := none }) hy
          have here : (s.modTab i fun t => { t with state := .held, cutHead := none, place := none }).boardState .active
              y.owner = s.boardState .active y.owner := rfl
          simp only [settleTab, hy, release, settleReleaseTab, standing, early, board, if_true, if_false, Bool.false_eq_true]
          split
          · exact .goesOn _ held rfl (.inr (.inl rfl))
          · exact .goesOn _ held rfl (.inr (.inl rfl))

/-- Once the heads have done their own work the tab's progress stands, and it is neither DONE nor SKIPPED unless it was skipped. -/
theorem Settled.after (settled : Settled i y s u) (own : OwnWork u t) (out : i ∉ (s.head h).queue)
    (kept : i ∉ (u.head h).queue → t.tab i = u.tab i) : (t.tab i).map Tab.progress = some y.progress ∧
      ((t.tab i).map Tab.state = some .done ∨ (t.tab i).map Tab.state = some .skipped → LoweredOnce y s t) := by
  cases settled with
  | skipped skip =>
    have tab := (kept fun mem => out (skip.queues h i mem)).trans skip.tab
    obtain ⟨v, tracker, lowered⟩ := skip.counts
    exact ⟨by rw [tab]; rfl, fun _ => ⟨v, tracker, lowered.trans (.of_tracker own.tracker)⟩⟩
  | goesOn z tab progress goes =>
    obtain ⟨z', tab', same⟩ := own.tabs i z tab
    have goes' : z'.progress = y.progress ∧ z'.goesOn := by
      rcases same with rfl | ⟨place, rfl⟩
      · exact ⟨progress, goes⟩
      · exact ⟨progress, .inl rfl⟩
    refine ⟨by rw [tab', Option.map_some, goes'.1], fun ended => ?_⟩
    rw [tab', Option.map_some] at ended
    rcases goes'.2 with e | e | e <;> rcases ended with d | d <;> simp [e] at d

/-! ### STOPPED (R92) -/

theorem Tab.stoppedBy_fields (c : StopCause) (x : Tab) :
    (x.stoppedBy c).attempts = (if c = .broken ∨ c = .overload then x.attempts + 1 else x.attempts) ∧
    (x.stoppedBy c).feed = (if c = .overload then x.feed - 1 else x.feed) ∧ (x.stoppedBy c).standing = x.standing ∧
    (x.stoppedBy c).release = x.release ∧ (x.stoppedBy c).owner = x.owner ∧ (x.stoppedBy c).linked = x.linked := by
  cases c <;> exact ⟨rfl, rfl, rfl, rfl, rfl, rfl⟩

theorem cutStopped_eq (names : (s.head h).tab = some i) (rem : Nat) : ∃ mm, cutStopped h rem s =
    headIdle h (settleTab h true ((s.head h).cause.getD .hold).how i
      (cutOver h i (Tab.stoppedBy ((s.head h).cause.getD .hold)) mm s)) := by
  simp only [cutStopped, names]
  exact ⟨_, rfl⟩

end

end Sys2Proof.Machine
end

section
/-! The rows of R93 and R94 as the end of a cut leaves them, whether the head then goes on or has left service. -/

namespace Sys2Proof.Machine

/-- What the rows of R93 and R94 read of the state is as it was before the end of the cut. -/
structure RowsRead (s w : State) : Prop where
  tracker : w.tracker = s.tracker
  hand : w.hand = s.hand
  notices : w.notices = s.notices
  req : w.req = s.req

/-- The tab was settled in u, and t is what the heads' own work then left. -/
structure SettledBy (h : Head) (stopped : Bool) (how : CutHow) (i : Nat) (y : Tab) (s w t : State) : Prop where
  reads : RowsRead s w
  tab : w.tab i = some y
  out : i ∉ (w.head h).queue
  own : OwnWork (settleTab h stopped how i w) t
  kept : i ∉ ((settleTab h stopped how i w).head h).queue → t.tab i = (settleTab h stopped how i w).tab i

section
variable {s w t : State} {h : Head} {i : Nat} {y : Tab} {stopped : Bool} {how : CutHow} {r : Board}

theorem RowsRead.board (reads : RowsRead s w) (b : Nat) : w.board .active b = s.board .active b :=
  State.board_congr reads.tracker .active b

theorem RowsRead.param (reads : RowsRead s w) (q : Param) : w.param q = s.param q := State.param_congr reads.req q

theorem RowsRead.id (reads : RowsRead s w) : w.activeId = s.activeId := State.activeId_congr reads.tracker

theorem RowsRead.early (reads : RowsRead s w) (b : Nat) : w.earlyLift b = s.earlyLift b := by
  simp only [State.earlyLift, reads.hand, reads.id]

theorem RowsRead.notice (reads : RowsRead s w) (k : Nat) : w.notice k = s.notice k := by
  rw [State.notice, reads.notices, State.notice]

variable (settled : SettledBy h stopped how i y s w t)
include settled

theorem SettledBy.state {z : Tab} (tab : (settleTab h stopped how i w).tab i = some z)
    (queues : QueuesIn w (settleTab h stopped how i w)) : (t.tab i).map Tab.state = some z.state := by
  rw [settled.kept fun mem => settled.out (queues h i mem), tab]
  rfl

theorem SettledBy.board {b : Nat} {st : BoardState}
    (board : (settleTab h stopped how i w).boardState .active b = some st) : t.boardState .active b = some st := by
  rw [State.boardState_congr settled.own.tracker, board]

/-- A tab with a skip standing (R93, R94). -/
theorem SettledBy.standing (standing : y.standing = true) : (t.tab i).map Tab.state = some .skipped := by
  have skip := settles_standing (h := h) (stopped := stopped) (how := how) settled.tab standing
  exact settled.state skip.tab skip.queues

/-- A plain tab at MAX_ATTEMPTS (R93). -/
theorem SettledBy.plain_failed (standing : y.standing = false) (release : y.release = false)
    (tries : s.param .maxAttempts ≤ y.attempts) : (t.tab i).map Tab.state = some .failed ∧
      t.notice 7 = (s.notice 7).map (NoticeRec.raise (.tabFailed s.activeId i how)) ∧
      ∀ b, b = y.owner ∨ y.linked = some b → ∀ q, s.board .active b = some q → q.state.retainable →
        t.boardState .active b = some (.retained .tabFailed) := by
  obtain ⟨tab, told, queues, boards⟩ := failTab_fails (how := how) settled.tab
  have run := settleTab_plain_failed (h := h) (stopped := stopped) (how := how) settled.tab standing release
    (by rw [settled.reads.param]; exact tries)
  rw [← run] at tab told queues boards
  refine ⟨settled.state tab queues, ?_, fun b hb q hq reach => settled.board (boards b hb q ((settled.reads.board b).trans hq) reach)⟩
  rw [settled.own.notice 7 (by decide) (by decide), told, settled.reads.id, settled.reads.notice]

section
variable (standing : y.standing = false) (release : y.release = true) (hr : s.board .active y.owner = some r)
include standing release hr

/-- A release tab with its board RELEASING, but where it is cut again (R94). -/
theorem SettledBy.releasing (hs : r.state = .releasing) :
    (s.earlyLift y.owner = .lifted → (t.tab i).map Tab.state = some .skipped ∧
      t.boardState .active y.owner = some (.lost .torn) ∧
      t.hand.service.map (fun v => (v.torn, v.dest)) = some (true, .bin)) ∧
    (s.earlyLift y.owner = .dropped → (t.tab i).map Tab.state = some .skipped ∧
      t.boardState .active y.owner = some (.lost .torn) ∧ t.hand.service = none) ∧
    (s.earlyLift y.owner = .out → (t.tab i).map Tab.state = some .held ∧ t.boardState .active y.owner = some .releasing ∧
      (t.tab i).map Tab.settlement = some (some ⟨h, stopped, how⟩) ∧
      (t.node .picker).order = .stay s.activeId y.owner) ∧
    (s.earlyLift y.owner = .none →
      (s.abortMarked = true → (t.tab i).map Tab.state = some .skipped ∧
        t.boardState .active y.owner = some (.retained .aborted)) ∧
      (s.abortMarked = false → s.param .maxAttempts ≤ y.attempts → (t.tab i).map Tab.state = some .failed ∧
        t.notice 7 = (s.notice 7).map (NoticeRec.raise (.tabFailed s.activeId i how)) ∧
        t.boardState .active y.owner = some (.retained .tabFailed))) := by
  obtain ⟨p, hp⟩ := State.active_of_board hr
  have board := (settled.reads.board y.owner).trans hr
  have active : w.tracker.active = some p := by rw [settled.reads.tracker, hp]
  have mark : w.abortMarked = s.abortMarked := State.abortMarked_congr settled.reads.tracker
  have early (e : EarlyLift) (same : s.earlyLift y.owner = e) : w.earlyLift y.owner = e := (settled.reads.early _).trans same
  refine ⟨fun e => ?_, fun e => ?_, fun e => ?_, fun e => ⟨fun m => ?_, fun m tries => ?_⟩⟩
  · obtain ⟨skip, lost, service⟩ := settles_lifted (h := h) (stopped := stopped) (how := how) settled.tab active board standing
      release hs (early _ e)
    exact ⟨settled.state skip.tab skip.queues, settled.board lost, by rw [settled.own.hand]; exact service⟩
  · obtain ⟨skip, lost, service⟩ := settles_dropped (h := h) (stopped := stopped) (how := how) settled.tab active board standing
      release hs (early _ e)
    exact ⟨settled.state skip.tab skip.queues, settled.board lost, by rw [settled.own.hand]; exact service⟩
  · obtain ⟨tab, queues, state, order⟩ := settles_out (h := h) (stopped := stopped) (how := how) settled.tab board standing
      release hs (early _ e)
    refine ⟨settled.state tab queues, settled.board state, ?_, by rw [settled.own.picker, order, settled.reads.id]⟩
    rw [settled.kept fun mem => settled.out (queues h i mem), tab]
    rfl
  · obtain ⟨skip, retained⟩ := settles_aborted (h := h) (stopped := stopped) (how := how) settled.tab active board standing
      release hs (early _ e) (mark.trans m)
    exact ⟨settled.state skip.tab skip.queues, settled.board retained⟩
  · obtain ⟨tab, queues, retained, told⟩ := settles_release_failed (h := h) (stopped := stopped) (how := how) settled.tab active
      board standing release hs (early _ e) (mark.trans m) (by rw [settled.reads.param]; exact tries)
    refine ⟨settled.state tab queues, ?_, settled.board retained⟩
    rw [settled.own.notice 7 (by decide) (by decide), told, settled.reads.id, settled.reads.notice]

/-- A release tab whose board a picker fault made READY (R66, R94). -/
theorem SettledBy.ready (hs : r.state = .ready) (early : s.earlyLift y.owner = .none) :
    (t.tab i).map Tab.state = some .held ∧ t.boardState .active y.owner = some .ready ∧
    t.tracker.pickQueue =
      if y.owner ∈ s.tracker.pickQueue then s.tracker.pickQueue else y.owner :: s.tracker.pickQueue := by
  obtain ⟨tab, queues, state, queue⟩ := settles_ready (h := h) (stopped := stopped) (how := how) settled.tab
    ((settled.reads.board y.owner).trans hr) standing release hs ((settled.reads.early _).trans early)
  refine ⟨settled.state tab queues, settled.board state, ?_⟩
  rw [settled.own.tracker, queue, settled.reads.tracker]

/-- A release tab that is cut again: the state it is queued in (R94). -/
theorem SettledBy.release_again (hs : r.state = .releasing) (early : s.earlyLift y.owner = .none)
    (mark : s.abortMarked = false) (tries : y.attempts < s.param .maxAttempts) :
    settleTab h stopped how i w = requeue h stopped i (setBoardState .active y.owner .gripped w) ∧
      (setBoardState .active y.owner .gripped w).tab i = some y ∧
      t.boardState .active y.owner = some .gripped := by
  obtain ⟨p, hp⟩ := State.active_of_board hr
  have board := (settled.reads.board y.owner).trans hr
  have run := settles_release_again (h := h) (stopped := stopped) (how := how) settled.tab
    (by rw [settled.reads.tracker, hp] : w.tracker.active = some p) board standing release hs
    ((settled.reads.early _).trans early) ((State.abortMarked_congr settled.reads.tracker).trans mark)
    (by rw [settled.reads.param]; exact tries)
  have tab : (setBoardState .active y.owner .gripped w).tab i = some y := by
    rw [State.tab, setBoardState, State.modBoard_disp]
    exact settled.tab
  refine ⟨run, tab, settled.board ?_⟩
  obtain ⟨place, e, put⟩ := requeue_puts h stopped tab
  rw [run, put, State.boardState_congr (putTab_rest i place true _).1]
  exact State.boardState_of_board (setBoardState_self w .gripped board)

end

end

/-! ### The end by STOPPED -/

section
variable {s : State} {h : Head} {i : Nat} {x : Tab} (cut : CutInHand h i x s) (rem : Nat)

/-- The entry of a tab whose cut was stopped, before it is settled. -/
def stoppedEntry (h : Head) (x : Tab) (s : State) : Tab :=
  { x.stoppedBy ((s.head h).cause.getD .hold) with peak := some ((s.filter h).peak.getD 0) }

include cut

theorem cutStopped_settles : ∃ w, CutOver h i (Tab.stoppedBy ((s.head h).cause.getD .hold)) s w ∧
    cutStopped h rem s = headIdle h (settleTab h true ((s.head h).cause.getD .hold).how i w) ∧
    SettledBy h true ((s.head h).cause.getD .hold).how i (stoppedEntry h x s) s w (cutStopped h rem s) ∧
    ((cutStopped h rem s).head h).tab = none ∧ ((cutStopped h rem s).head h).cause = none ∧
    ((cutStopped h rem s).head h).timer = none ∧
    (if (cutStopped h rem s).due h = true then
        ((cutStopped h rem s).head h).state = .changing ∨ ((cutStopped h rem s).head h).state = .noTool
      else ((cutStopped h rem s).head h).state = .idle) := by
  obtain ⟨mm, run⟩ := cutStopped_eq cut.names rem
  have ends := cutOver_over h i (Tab.stoppedBy ((s.head h).cause.getD .hold)) mm s
  set w := cutOver h i (Tab.stoppedBy ((s.head h).cause.getD .hold)) mm s
  obtain ⟨tab, cause, timer, state, tabs⟩ := ends.idles cut (settleTab_work h true ((s.head h).cause.getD .hold).how i w)
  refine ⟨w, ends, run, ?_, ?_⟩
  · rw [run]
    exact ⟨⟨ends.tracker, ends.hand, ends.notices, ends.req⟩, ends.tab x cut.tab, by rw [ends.queue]; exact cut.out,
      headIdle_own h _, tabs i⟩
  · rw [run]
    exact ⟨tab, cause, timer, state⟩

/-- A tab that is cut again after STOPPED stands at the front of the head's queue, unless a change begins (R92, R93, R109). -/
theorem cutStopped_again {w v : State} {y : Tab} (ends : CutOver h i (Tab.stoppedBy ((s.head h).cause.getD .hold)) s w)
    (disp : v.disp = w.disp) (tab : v.tab i = some y) (run : cutStopped h rem s = headIdle h (requeue h true i v)) :
    ((cutStopped h rem s).tab i).map Tab.state = some .queued ∧
      ((cutStopped h rem s).due h = false → ((cutStopped h rem s).head h).queue = i :: (s.head h).queue ∧
        ((cutStopped h rem s).tab i).map Tab.place = some (some (placeOf h))) := by
  have put : requeue h true i v = putTab i (placeOf h) true v := by simp [requeue, tab]
  have own := headIdle_own h (putTab i (placeOf h) true v)
  have queued := putTab_entry (place := placeOf h) (front := true) tab
  rw [run, put]
  refine ⟨?_, fun due => ?_⟩
  · obtain ⟨z, hz, same⟩ := own.tabs i _ queued
    rw [hz]
    rcases same with rfl | ⟨place, rfl⟩ <;> rfl
  · rw [headIdle_idle (by rw [← due, State.due, State.due, own.due])]
    refine ⟨?_, (congrArg (Option.map Tab.place) queued).trans rfl⟩
    have queue : (v.head h).queue = (s.head h).queue := by rw [State.head, disp]; exact ends.queue
    rw [setHeadState_head, ← queue]
    cases h <;> rfl

end

end Sys2Proof.Machine
end

section
/-! A head's fault (R74, R80, R95): how the head leaves service, and where the tab of the cut it ends and the tabs of its queue go. -/

namespace Sys2Proof.Machine

/-! ### Assignment with a head out of service (R76, R80) -/

theorem HeadState.inService_eq (st : HeadState) : st.inService = decide (st ∉ [HeadState.offline, .noTool, .fault]) := by
  cases st <;> rfl

section
variable {s t : State} {h : Head}

theorem State.reaches_eq (s : State) (h : Head) (x : Tab) : s.reaches h x = match h with
    | .a => decide (x.start.x ≤ s.param .reachAMax ∧ x.stop.x ≤ s.param .reachAMax)
    | .b => decide ((s.param .reachBMin : Int) ≤ x.start.x ∧ (s.param .reachBMin : Int) ≤ x.stop.x) := by
  cases h <;> simp [State.reaches, Tab.x1, Tab.x2]

/-- With head h out of service the SINGLE rules leave the other head, or the unassigned list. -/
theorem State.assignSingle_out (one : s.ev.bothLeave = false) (out : s.inService h = false) (x : Tab) :
    s.assignSingle x = if s.inService h.other && s.reaches h.other x then placeOf h.other else .unassigned := by
  have lead : s.lead = h ∧ s.follow = h.other ∨ s.lead = h.other ∧ s.follow = h := by
    unfold State.follow
    cases s.lead <;> cases h <;> simp [Head.other]
  unfold State.assignSingle
  rcases lead with ⟨l, f⟩ | ⟨l, f⟩ <;> rw [l, f, s.takesTabs_of_one _ one, s.takesTabs_of_one _ one, out]
  · rw [Bool.false_and, if_neg Bool.false_ne_true]
  · rw [Bool.false_and, if_neg Bool.false_ne_true]

/-- The SINGLE rules read the heads' states, the parameters and the tab's geometry. -/
theorem State.assignSingle_congr (req : t.req = s.req) (ev : t.ev.bothLeave = s.ev.bothLeave)
    (heads : ∀ k, (t.head k).state = (s.head k).state) {x y : Tab} (start : y.start = x.start) (stop : y.stop = x.stop) :
    t.assignSingle y = s.assignSingle x := by
  have lead : t.lead = s.lead := by simp only [State.lead, State.param_congr req]
  have takes (k : Head) : t.takesTabs k = s.takesTabs k := by simp only [State.takesTabs, State.inService, ev, heads]
  have reaches (k : Head) : t.reaches k y = s.reaches k x := by
    rw [State.reaches_eq, State.reaches_eq, start, stop]
    simp only [State.param_congr req]
  unfold State.assignSingle State.follow
  rw [lead, takes, takes, reaches, reaches]

/-! ### The queue moved out (R80) -/

/-- A list with tabs put to it one by one, those with `release` to its front (R80). -/
def putEach (release : Nat → Bool) (l old : List Nat) : List Nat :=
  (l.filter release).reverse ++ old ++ l.filter fun j => !release j

theorem putEach_cons (release : Nat → Bool) (j : Nat) (l old : List Nat) :
    putEach release (j :: l) old = putEach release l (placeIn (release j) j old) := by
  cases e : release j <;> simp [putEach, placeIn, e]

/-- Tab j stands in the table, with the release flag and the place by the SINGLE rules as said. -/
def Assigns (h : Head) (release other : Nat → Bool) (s : State) (j : Nat) : Prop :=
  ∃ x, s.tab j = some x ∧ x.release = release j ∧
    s.assignSingle x = if other j then placeOf h.other else .unassigned

variable {release other : Nat → Bool}

theorem Assigns.after_put {j i : Nat} {place : Place} {front : Bool} (a : Assigns h release other s j) :
    Assigns h release other (putTab i place front s) j := by
  obtain ⟨x, hx, flag, assigned⟩ := a
  obtain ⟨-, -, -, -, ev, -, req, -⟩ := putTab_rest i place front s
  have heads (k : Head) : ((putTab i place front s).head k).state = (s.head k).state :=
    HeadRec.state_of_bare (State.head_of_bare (putTab_bare s i place front) k)
  have same (y : Tab) (start : y.start = x.start) (stop : y.stop = x.stop) :=
    State.assignSingle_congr req (by rw [ev]) heads start stop
  by_cases e : i = j
  · subst e
    exact ⟨_, putTab_entry hx, flag, (same _ rfl rfl).trans assigned⟩
  · exact ⟨x, (putTab_tab_ne place front e).trans hx, flag, (same x rfl rfl).trans assigned⟩

theorem reassign_eq {j : Nat} (a : Assigns h release other s j) :
    reassign s j = putTab j (if other j then placeOf h.other else .unassigned) (release j) s := by
  obtain ⟨x, hx, flag, assigned⟩ := a
  simp [reassign, hx, flag, assigned]

theorem putTab_lists (j : Nat) (elsewhere front : Bool) (s : State) :
    let t := putTab j (if elsewhere then placeOf h.other else .unassigned) front s
    (t.head h).queue = (s.head h).queue ∧
      (t.head h.other).queue = (if elsewhere then placeIn front j (s.head h.other).queue else (s.head h.other).queue) ∧
      t.disp.unassigned = (if elsewhere then s.disp.unassigned else placeIn front j s.disp.unassigned) := by
  cases elsewhere <;> cases h <;> exact ⟨rfl, rfl, rfl⟩

/-- The tabs of a list reassigned from front to back (R80). -/
theorem foldl_reassign_lists (l : List Nat) (hl : ∀ j ∈ l, Assigns h release other s j) :
    let t := l.foldl reassign s
    (t.head h).queue = (s.head h).queue ∧
      (t.head h.other).queue = putEach release (l.filter other) (s.head h.other).queue ∧
      t.disp.unassigned = putEach release (l.filter fun j => !other j) s.disp.unassigned := by
  induction l generalizing s with
  | nil => simp [putEach]
  | cons j l ih =>
    have first := hl j List.mem_cons_self
    have rest : ∀ k ∈ l, Assigns h release other (reassign s j) k := fun k hk => by
      rw [reassign_eq first]
      exact (hl k (List.mem_cons_of_mem _ hk)).after_put
    obtain ⟨own, others, unassigned⟩ := ih rest
    rw [reassign_eq first] at own others unassigned
    obtain ⟨own', others', unassigned'⟩ := putTab_lists (h := h) j (other j) (release j) s
    dsimp only at own others unassigned own' others' unassigned' ⊢
    rw [List.foldl_cons, reassign_eq first, own, others, unassigned, own', others', unassigned']
    cases e : other j <;> simp [e, putEach_cons]

/-- A head out of service leaves service (R80): its queue goes to the other head and to the unassigned list. -/
theorem leaveService_moves (one : s.ev.bothLeave = false) (unnamed : s.ev.settled.get h = none)
    (out : s.inService h = false) (assigns : ∀ j ∈ (s.head h).queue, Assigns h release other s j) :
    let t := leaveService h s
    (t.head h).queue = [] ∧
      (t.head h.other).queue = putEach release ((s.head h).queue.filter other) (s.head h.other).queue ∧
      t.disp.unassigned = putEach release ((s.head h).queue.filter fun j => !other j) s.disp.unassigned ∧
      t.disp.paired = false := by
  set m : State := { s with ev := { s.ev with left := s.ev.left.set h true } } with hm
  have run : leaveService h s = evalPairing (moveOut h m) := by
    have stays : m.ev.bothLeave = false := one
    unfold leaveService
    dsimp only
    rw [if_neg (by simp [one])]
  set e := m.modHead h fun r => { r with queue := [] } with he
  have moves : moveOut h m = (s.head h).queue.foldl reassign e := by
    have unnamed' : e.ev.settled.get h = none := unnamed
    unfold moveOut
    dsimp only
    rw [← he, unnamed']
    rfl
  have ready : ∀ j ∈ (s.head h).queue, Assigns h release other e j := fun j hj => by
    obtain ⟨x, hx, flag, assigned⟩ := assigns j hj
    refine ⟨x, hx, flag, (State.assignSingle_congr (s := s) (t := e) rfl rfl (fun k => ?_) rfl rfl).trans assigned⟩
    exact HeadRec.state_of_bare (State.head_of_bare (State.modHead_queue_bare m h []) k)
  obtain ⟨own, others, unassigned⟩ := foldl_reassign_lists _ ready
  obtain ⟨-, -, -, -, lists, paired, -⟩ := evalPairing_rest (moveOut h m)
  dsimp only at own others unassigned ⊢
  rw [run, evalPairing_head, evalPairing_head, lists, paired, moves, own, others, unassigned]
  refine ⟨by cases h <;> rfl, by cases h <;> rfl, rfl, ?_⟩
  have gone : (moveOut h m).inService h = false := by
    rw [State.inService, HeadRec.state_of_bare (moveOut_head h h m)]
    exact out
  rw [← moves]
  have fails : (moveOut h m).pairingFails = some 1 := by
    unfold State.pairingFails
    rw [if_pos]
    cases h <;> simp [gone]
  rw [fails]
  rfl

end

end Sys2Proof.Machine
end

section
/-! A head's fault with its cut in hand (R74, R95), as the obligations read it. -/

namespace Sys2Proof.Machine

/-! ### The fault itself (R74) -/

/-- The state once the head's latch and its record have taken the fault (R74). -/
def State.faulting (s : State) (h : Head) (why : FaultReason) : State :=
  (setLatch h.node why s).modHead h fun r => { r with state := .fault, reason := some why, timer := none }

/-- The head is in FAULT, as far as its own record and its node go. -/
structure FaultTaken (h : Head) (why : FaultReason) (s t : State) : Prop where
  state : (t.head h).state = .fault
  reason : (t.head h).reason = some why
  timer : (t.head h).timer = none
  latch : (t.node h.node).latch = s.latchAfter h.node why
  notice : t.notice 2 = s.notice 2

section
variable {s t u : State} {h : Head} {why : FaultReason}

theorem faulting_head (s : State) (h : Head) (why : FaultReason) : (s.faulting h why).head h =
    { s.head h with state := .fault, reason := some why, timer := none } := by
  rw [State.faulting, State.modHead, State.setHead_head]
  rfl

theorem faulting_head_ne {k : Head} (hk : k ≠ h) (s : State) (why : FaultReason) :
    (s.faulting h why).head k = s.head k := by
  rw [State.faulting, State.modHead, State.setHead_head_ne _ _ _ _ hk]
  rfl

theorem faulting_taken (s : State) (h : Head) (why : FaultReason) : FaultTaken h why s (s.faulting h why) :=
  ⟨by rw [faulting_head], by rw [faulting_head], by rw [faulting_head],
    (by cases h <;> rfl : ((s.faulting h why).node h.node).latch = ((s.node h.node).latched why).latch).trans
      (latched_latch h.node why s), rfl⟩

/-- What keeps the fault taken: the record but for the queue, the latch and HEAD_FAULT's notice. -/
theorem FaultTaken.keeps (taken : FaultTaken h why s t) (state : (u.head h).state = (t.head h).state)
    (reason : (u.head h).reason = (t.head h).reason) (timer : (u.head h).timer = none)
    (latch : (u.node h.node).latch = (t.node h.node).latch) (notice : u.notice 2 = t.notice 2) :
    FaultTaken h why s u :=
  ⟨state.trans taken.state, reason.trans taken.reason, timer, latch.trans taken.latch, notice.trans taken.notice⟩

/-- The heads' own work that leaves the head in FAULT. -/
theorem FaultTaken.after (taken : FaultTaken h why s t) (own : OwnWork t u) (state : (u.head h).state = (t.head h).state) :
    FaultTaken h why s u := by
  have fields {α : Type} (g : HeadRec → α) := congrArg g (own.kept h)
  exact taken.keeps state (fields HeadRec.reason) ((fields HeadRec.timer).trans taken.timer) (own.latch _)
    (own.notice 2 (by decide) (by decide))

theorem FaultTaken.leaves (taken : FaultTaken h why s t) : FaultTaken h why s (leaveService h t) :=
  taken.after (leaveService_own h t) (HeadRec.state_of_bare (leaveService_head h h t))

/-- HEAD_FAULT raised over a fault that was taken (R74). -/
theorem FaultTaken.faulted (taken : FaultTaken h why s t) : headFaulted h why s (raise (.headFault h why) t) = true := by
  have told : (raise (.headFault h why) t).notice 2 = (s.notice 2).map (NoticeRec.raise (.headFault h why)) := by
    rw [← taken.notice]
    exact (raise_notice_once _ t 2).trans (if_pos rfl)
  have state : ((raise (.headFault h why) t).head h).state = .fault := taken.state
  have reason : ((raise (.headFault h why) t).head h).reason = some why := taken.reason
  have timer : ((raise (.headFault h why) t).head h).timer = none := taken.timer
  have latch : ((raise (.headFault h why) t).node h.node).latch = s.latchAfter h.node why := taken.latch
  simp [headFaulted, told, state, reason, timer, latch]

/-- A CUTTING or STOPPING head that faults, but by CUT_TIMEOUT (R95). -/
theorem headFault_cut (state : (s.head h).state = .cutting ∨ (s.head h).state = .stopping) (other : why ≠ .cutTimeout) :
    headFault h why s = raise (.headFault h why) (leaveService h (faultCut h why (s.faulting h why))) := by
  have idle : ¬ (why = .cutTimeout ∧ (s.head h).state = .cutting) := fun e => other e.1
  rcases state with e | e <;> simp [headFault, e, other, HeadState.inService] <;> rfl

/-- A cut that ends without a tab named is accounted (R97). -/
theorem faultCut_unnamed (names : (s.head h).tab = none) : ∃ mm, faultCut h why s = chargeBit h mm (endHead h s) := by
  simp only [faultCut, names]
  exact ⟨_, rfl⟩

theorem faultCut_named {i : Nat} (names : (s.head h).tab = some i) : ∃ mm, faultCut h why s =
    settleTab h false why.how i (cutOver h i (fun t => { t with attempts := t.attempts + 1 }) mm s) := by
  simp only [faultCut, names]
  exact ⟨_, rfl⟩

end

/-! ### The cut in hand -/

section
variable {s : State} {h : Head} {i : Nat} {x : Tab}

/-- The entry of a tab whose cut a fault ended, before it is settled (R95). -/
def faultedEntry (h : Head) (x : Tab) (s : State) : Tab :=
  { x with attempts := x.attempts + 1, peak := some ((s.filter h).peak.getD 0) }

/-- How the fault of a head with a cut in hand goes: the cut ends, its tab is settled, and the head leaves service. -/
theorem headFault_settles (cut : CutInHand h i x s) : ∃ w t, CutOver h i (fun t => { t with attempts := t.attempts + 1 })
      (s.faulting h .cutFault) w ∧
    t = leaveService h (settleTab h false .cutFault i w) ∧ headFault h .cutFault s = raise (.headFault h .cutFault) t ∧
    SettledBy h false .cutFault i (faultedEntry h x s) s w t ∧ FaultTaken h .cutFault s t ∧
    (t.head h).tab = none ∧ (t.head h).cause = none := by
  set e := s.faulting h .cutFault with he
  have head := faulting_head s h .cutFault
  rw [← he] at head
  obtain ⟨mm, run⟩ := faultCut_named (h := h) (why := .cutFault) (s := e) (by rw [head]; exact cut.names)
  have ended := cutOver_over h i (fun t => { t with attempts := t.attempts + 1 }) mm e
  set w := cutOver h i (fun t => { t with attempts := t.attempts + 1 }) mm e
  have work := settleTab_work h false .cutFault i w
  have own := leaveService_own h (settleTab h false .cutFault i w)
  have state : ((settleTab h false .cutFault i w).head h).state = .fault := by rw [ended.state work, head]
  have kept := ended.kept work
  have fields {α : Type} (g : HeadRec → α) := congrArg g kept
  have taken : FaultTaken h .cutFault s (settleTab h false .cutFault i w) := by
    refine (faulting_taken s h .cutFault).keeps (by rw [state, faulting_head]) (fields HeadRec.reason)
      (fields HeadRec.timer) ?_ ?_
    · rw [work.nodes h]
      simp only [State.node, ended.ring]
      rfl
    · rw [work.notice 2 (by decide) (by decide) (by decide), State.notice, ended.notices]
      rfl
  refine ⟨w, _, ended, rfl, ?_, ?_, taken.leaves, ?_, ?_⟩
  · rw [headFault_cut cut.state (by decide), ← he, run]
    rfl
  · refine ⟨⟨ended.tracker, ended.hand, ended.notices, ended.req⟩, ended.tab x cut.tab, ?_, own,
      fun out => leaveService_tab out⟩
    rw [ended.queue, head]
    exact cut.out
  · exact ((congrArg HeadRec.tab (own.kept h) :)).trans (fields HeadRec.tab)
  · exact ((congrArg HeadRec.cause (own.kept h) :)).trans (fields HeadRec.cause)

end

end Sys2Proof.Machine
end

section
/-! The cut that a head's fault ends, settled as the obligations read it (R80, R93 to R95). -/

namespace Sys2Proof.Machine

/-- Tab j goes to the other head when head h leaves service: that head is in service and reaches the tab (R76, R80). -/
def goesOver (h : Head) (s : State) (j : Nat) : Bool :=
  decide ((s.head h.other).state ∉ [HeadState.offline, .noTool, .fault]) &&
    match s.tab j with
    | some y =>
      match h.other with
      | .a => decide (y.start.x ≤ s.param .reachAMax ∧ y.stop.x ≤ s.param .reachAMax)
      | .b => decide ((s.param .reachBMin : Int) ≤ y.start.x ∧ (s.param .reachBMin : Int) ≤ y.stop.x)
    | none => false

/-- Tab j has the release flag. -/
def releaseAt (s : State) (j : Nat) : Bool := (s.tab j).map Tab.release == some true

section
variable {s v w t : State} {h : Head} {i : Nat} {x y : Tab}

theorem goesOver_eq {j : Nat} {z : Tab} (hz : s.tab j = some z) :
    goesOver h s j = (s.inService h.other && s.reaches h.other z) := by
  rw [goesOver, hz, State.reaches_eq, State.inService, HeadState.inService_eq] <;> rfl

/-- What a state with head h out of service must share with s for its tabs to go where s says. -/
structure LikeAt (h : Head) (s v : State) : Prop where
  req : v.req = s.req
  one : v.ev.bothLeave = false
  out : v.inService h = false
  other : v.inService h.other = s.inService h.other

theorem LikeAt.assigns (like : LikeAt h s v) {j : Nat} {z : Tab} (hz : s.tab j = some z) {y : Tab}
    (start : y.start = z.start) (stop : y.stop = z.stop) :
    v.assignSingle y = if goesOver h s j then placeOf h.other else .unassigned := by
  have reaches : v.reaches h.other y = s.reaches h.other z := by
    rw [State.reaches_eq, State.reaches_eq, start, stop]
    simp only [State.param_congr like.req]
  rw [State.assignSingle_out like.one like.out, goesOver_eq hz, like.other, reaches]

/-- The tab of a cut that a fault ended, cut again: it goes by the SINGLE rules to the front of a queue or list, and the head's
other tabs behind it (R80, R93, R95). -/
theorem requeue_moves (like : LikeAt h s v) (unnamed : v.ev.settled.get h = none) (hx : s.tab i = some x)
    (hy : v.tab i = some y) (start : y.start = x.start) (stop : y.stop = x.stop)
    (out : i ∉ (v.head h).queue) (others : ∀ j, j ≠ i → v.tab j = s.tab j)
    (present : ∀ j, j ∈ (v.head h).queue → (s.tab j).isSome = true) :
    let t := leaveService h (requeue h false i v)
    (t.tab i).map Tab.place = some (some (if goesOver h s i then placeOf h.other else .unassigned)) ∧
      (t.head h).queue = [] ∧
      (t.head h.other).queue = putEach (releaseAt s) ((v.head h).queue.filter (goesOver h s))
        ((if goesOver h s i then [i] else []) ++ (v.head h.other).queue) ∧
      t.disp.unassigned = putEach (releaseAt s) ((v.head h).queue.filter fun j => !goesOver h s j)
        ((if goesOver h s i then [] else [i]) ++ v.disp.unassigned) ∧
      t.disp.paired = false := by
  set place : Place := if goesOver h s i then placeOf h.other else .unassigned with hplace
  have put : requeue h false i v = putTab i place true v := by
    have assigned : v.assignSingle y = place := like.assigns hx start stop
    simp [requeue, hy, like.one, assigned]
  obtain ⟨own, front, back⟩ := putTab_lists (h := h) i (goesOver h s i) true v
  have assigns : ∀ j ∈ (v.head h).queue, Assigns h (releaseAt s) (goesOver h s) (putTab i place true v) j := fun j hj => by
    obtain ⟨z, hz⟩ := Option.isSome_iff_exists.1 (present j hj)
    have other : j ≠ i := fun e => out (e ▸ hj)
    exact Assigns.after_put ⟨z, (others j other).trans hz, by simp [releaseAt, hz], like.assigns hz rfl rfl⟩
  obtain ⟨-, -, -, -, ev, -⟩ := putTab_rest i place true v
  have state := HeadRec.state_of_bare (State.head_of_bare (putTab_bare v i place true) h)
  rw [← hplace] at own front back
  have moved := leaveService_moves (s := putTab i place true v) (by rw [ev]; exact like.one) (by rw [ev]; exact unnamed)
    (by rw [State.inService, state]; exact like.out) (by rw [own]; exact assigns)
  obtain ⟨empty, other, unassigned, paired⟩ := moved
  have entry : (leaveService h (putTab i place true v)).tab i = some (y.queuedIn place) :=
    (leaveService_tab (by rw [own]; exact out)).trans (putTab_entry hy)
  rw [put]
  refine ⟨by rw [entry]; rfl, empty, ?_, ?_, paired⟩
  · rw [other, own, front]
    cases goesOver h s i <;> rfl
  · rw [unassigned, own, back]
    cases goesOver h s i <;> rfl

/-- A tab that a fault's row sends back to a queue is QUEUED, wherever it then stands. -/
theorem requeue_queued {stopped : Bool} (hy : v.tab i = some y) (own : OwnWork (requeue h stopped i v) t) :
    (t.tab i).map Tab.state = some .queued := by
  obtain ⟨place, e, put⟩ := requeue_puts h stopped hy
  have queued : (requeue h stopped i v).tab i = some (y.queuedIn place) := by
    rw [put]
    exact putTab_entry (s := { v with ev := e }) hy
  obtain ⟨z, hz, same⟩ := own.tabs i _ queued
  rw [hz]
  rcases same with rfl | ⟨place, rfl⟩ <;> rfl

/-- The row that sends the tab of a faulted cut back, from the state the settling starts in. -/
theorem faulted_again (cut : CutInHand h i x s) (ended : CutOver h i (fun t => { t with attempts := t.attempts + 1 })
      (s.faulting h .cutFault) w) (disp : v.disp = w.disp) (req : v.req = w.req) (ev : v.ev = w.ev)
    (hy : v.tab i = some (faultedEntry h x s)) (run : settleTab h false .cutFault i w = requeue h false i v)
    (ht : t = leaveService h (settleTab h false .cutFault i w)) :
    (t.tab i).map Tab.state = some .queued ∧
    (s.ev.bothLeave = false → s.ev.settled.get h = none →
      (∀ j, j ∈ (s.head h).queue → (s.tab j).isSome = true) →
      (t.tab i).map Tab.place = some (some (if goesOver h s i then placeOf h.other else .unassigned)) ∧
        (t.head h).queue = [] ∧
        (t.head h.other).queue = putEach (releaseAt s) ((s.head h).queue.filter (goesOver h s))
          ((if goesOver h s i then [i] else []) ++ (s.head h.other).queue) ∧
        t.disp.unassigned = putEach (releaseAt s) ((s.head h).queue.filter fun j => !goesOver h s j)
          ((if goesOver h s i then [] else [i]) ++ s.disp.unassigned) ∧
        t.disp.paired = false) := by
  have head : v.head h = { s.head h with state := .fault, reason := some .cutFault, tab := none, cause := none, timer := none } := by
    rw [State.head, disp]
    exact ended.head.trans (by rw [faulting_head])
  have other : v.head h.other = s.head h.other := by
    have apart : h.other ≠ h := by cases h <;> nofun
    rw [State.head, disp]
    exact (ended.others _ apart).trans (faulting_head_ne apart s .cutFault)
  have ev : v.ev = s.ev := ev.trans ended.ev
  have unassigned : v.disp.unassigned = s.disp.unassigned := by rw [disp]; exact ended.unassigned
  have queue : (v.head h).queue = (s.head h).queue := by rw [head]
  have tab_ne (j : Nat) (hj : j ≠ i) : v.tab j = s.tab j := by
    rw [State.tab, disp]
    exact ended.tab_ne j hj
  rw [ht, run]
  refine ⟨requeue_queued hy (leaveService_own h _), fun one unnamed present => ?_⟩
  have like : LikeAt h s v := ⟨req.trans ended.req, by rw [ev]; exact one, by rw [State.inService, head]; rfl,
    by rw [State.inService, other, State.inService]⟩
  have moved := requeue_moves like (by rw [ev]; exact unnamed) cut.tab hy rfl rfl (by rw [queue]; exact cut.out) tab_ne
    (fun j hj => present j (by rw [← queue]; exact hj))
  rw [queue, other, unassigned] at moved
  exact moved

/-- Settling of a cut that the head's fault ended, as the obligations read it (R93 to R95). -/
theorem headFault_cutSettled (s : State) (h : Head) : cutSettled h .cutFault s (headFault h .cutFault s) := by
  intro state i names out x hx
  have cut : CutInHand h i x s := ⟨state, names, hx, out⟩
  obtain ⟨w, t, ended, ht, run, settled, -, tab, cause⟩ := headFault_settles cut
  have told : (raise (.headFault h .cutFault) t).notice 7 = t.notice 7 := raise_notice _ t 7
  have progress := (settleTab_settled (h := h) (stopped := false) (how := .cutFault) settled.tab).after settled.own settled.out
    settled.kept
  have standing : (faultedEntry h x s).standing = x.standing := rfl
  rw [run]
  dsimp only
  rw [told]
  refine ⟨tab, cause, ?_, settled.standing, fun standing release => ⟨fun tries => ?_, fun tries => ?_⟩,
    fun standing release r hr => ⟨fun hs => ?_, fun hs early => settled.ready standing release hr hs early⟩⟩
  · have kept := progress.1
    obtain ⟨z, hz, e⟩ := Option.map_eq_some_iff.1 kept
    have now : (raise (.headFault h .cutFault) t).tab i = some z := hz
    rw [now]
    exact congrArg some e
  · exact settled.plain_failed standing release tries
  · have moved := faulted_again cut ended rfl rfl rfl settled.tab
      (settleTab_plain_again settled.tab standing release (by rw [settled.reads.param]; exact tries)) ht
    exact moved
  · obtain ⟨lifted, dropped, out, waits⟩ := settled.releasing standing release hr hs
    refine ⟨lifted, dropped, out, fun early => ⟨fun mark => (waits early).1 mark, fun mark tries => (waits early).2 mark tries,
      fun mark tries => ?_⟩⟩
    obtain ⟨again, entry, gripped⟩ := settled.release_again standing release hr hs early mark tries
    obtain ⟨a, b, written⟩ := setBoardState_tracker w .active (faultedEntry h x s).owner .gripped
    have moved := faulted_again cut ended (by rw [written]) (by rw [written]) (by rw [written]) entry again ht
    exact ⟨moved, gripped⟩

end

end Sys2Proof.Machine
end

section
/-! The completion of a head's order with a cut in hand: DONE, STOPPED, or a fault (R90, R92 to R96). -/

namespace Sys2Proof.Machine

/-- Order o is the one that the head's cut in hand waits for: its CUT, or the STOP of it. -/
def AwaitsEnd (h : Head) (o : Order) (s : State) : Prop :=
  ((s.head h).state = .cutting ∧ o.kind = Order.kind (.cut 0 0 ⟨0, 0⟩ ⟨0, 0⟩ 0 0 0)) ∨ ((s.head h).state = .stopping ∧ o = .stop)

/-- The results that end a cut DONE (R90, R92). -/
def EndsDone (o : Order) (res : Result) : Prop := if o = .stop then res = .alreadyDone else res = .ok

section
variable {s : State} {h : Head} {o : Order} {res : Result} {rem : Nat}

theorem headCompleted_cut (state : (s.head h).state = .cutting)
    (kind : o.kind = Order.kind (.cut 0 0 ⟨0, 0⟩ ⟨0, 0⟩ 0 0 0)) :
    o ≠ .stop ∧ headCompleted h o res rem s = if res = .ok then cutDone h s else headFault h .cutFault s := by
  cases o with
  | cut => exact ⟨nofun, by simp only [headCompleted, state]⟩
  | _ => simp [Order.kind] at kind

theorem headCompleted_done (order : AwaitsEnd h o s) (done : EndsDone o res) : headCompleted h o res rem s = cutDone h s := by
  rcases order with ⟨state, kind⟩ | ⟨state, rfl⟩
  · obtain ⟨other, run⟩ := headCompleted_cut (res := res) (rem := rem) state kind
    rw [EndsDone, if_neg other] at done
    rw [run, if_pos done]
  · rw [EndsDone, if_pos rfl] at done
    subst done
    simp only [headCompleted, state]

theorem headCompleted_stopped (order : AwaitsEnd h .stop s) : headCompleted h .stop .stopped rem s = cutStopped h rem s := by
  rcases order with ⟨-, kind⟩ | ⟨state, -⟩
  · simp [Order.kind] at kind
  · simp only [headCompleted, state]

theorem headCompleted_fails (order : AwaitsEnd h o s) (done : ¬ EndsDone o res) (stopped : ¬ (o = .stop ∧ res = .stopped)) :
    headCompleted h o res rem s = headFault h .cutFault s := by
  rcases order with ⟨state, kind⟩ | ⟨state, rfl⟩
  · obtain ⟨other, run⟩ := headCompleted_cut (res := res) (rem := rem) state kind
    rw [EndsDone, if_neg other] at done
    rw [run, if_neg done]
  · rw [EndsDone, if_pos rfl] at done
    have never : res ≠ .stopped := fun e => stopped ⟨rfl, e⟩
    cases res <;> first
      | exact absurd rfl done
      | exact absurd rfl never
      | simp only [headCompleted, state]

end

/-- The head once a cut of it has ended by DONE or by STOPPED (R90, R92, R109). -/
def HeadFreed (h : Head) (s t : State) : Prop :=
  t.setup = s.setup ∧ (t.head h).tab = none ∧ (t.head h).cause = none ∧ (t.head h).timer = none ∧
    (if t.due h = true then (t.head h).state = .changing ∨ (t.head h).state = .noTool else (t.head h).state = .idle)

section
variable {s t w : State} {h : Head} {i : Nat} {x y : Tab} {r : Board} {rem : Nat}

theorem cutDone_freed (cut : CutInHand h i x s) : HeadFreed h s (cutDone h s) := by
  obtain ⟨tab, cause, timer, state, -, -⟩ := cutDone_ends cut
  exact ⟨cutDone_setup s h, tab, cause, timer, state⟩

theorem cutStopped_freed (cut : CutInHand h i x s) : HeadFreed h s (cutStopped h rem s) := by
  obtain ⟨-, -, -, -, tab, cause, timer, state⟩ := cutStopped_settles cut rem
  exact ⟨cutStopped_setup s h rem, tab, cause, timer, state⟩

/-- The open-tab counts of the boards of a tab that is over (R56). -/
theorem LoweredOnce.counts (lowered : LoweredOnce x s t) (apart : x.linked ≠ some x.owner) {b : Nat} {q : Board}
    (joined : b = x.owner ∨ x.linked = some b) (hq : s.board .active b = some q) :
    ∃ y, t.board .active b = some y ∧ y.openTabs ≤ q.openTabs - 1 ∧
      ((∀ c, c = x.owner ∨ x.linked = some c → t.isRetained c = s.isRetained c) → y.openTabs = q.openTabs - 1) := by
  obtain ⟨v, tracker, counted⟩ := lowered
  have counts := counted.lowered apart joined ((State.board_congr tracker .active b).trans hq)
  simp only [State.isRetained_congr tracker] at counts
  exact counts

/-- A stopped cut's tab: its progress, and its boards' counts where it is over (R56, R92, R103). -/
theorem cutStopped_progress (cut : CutInHand h i x s) :
    ((cutStopped h rem s).tab i).map Tab.progress = some (stoppedEntry h x s).progress ∧
    (((cutStopped h rem s).tab i).map Tab.state = some .done ∨ ((cutStopped h rem s).tab i).map Tab.state = some .skipped →
      LoweredOnce (stoppedEntry h x s) s (cutStopped h rem s)) := by
  obtain ⟨w, ended, run, settled, -⟩ := cutStopped_settles cut rem
  obtain ⟨progress, lowered⟩ := (settleTab_settled (h := h) (stopped := true)
    (how := ((s.head h).cause.getD .hold).how) settled.tab).after settled.own settled.out settled.kept
  refine ⟨progress, fun finished => ?_⟩
  obtain ⟨v, tracker, counted⟩ := lowered finished
  exact ⟨v, tracker.trans settled.reads.tracker, counted⟩

/-- The end of the tab's cut by DONE or by STOPPED lowers its boards' counts where the tab is over (R56). -/
theorem cutStopped_counts (cut : CutInHand h i x s)
    (finished : ((cutStopped h rem s).tab i).map Tab.state = some .done ∨
      ((cutStopped h rem s).tab i).map Tab.state = some .skipped) : LoweredOnce x s (cutStopped h rem s) := by
  obtain ⟨-, -, -, -, owner, linked⟩ := x.stoppedBy_fields ((s.head h).cause.getD .hold)
  obtain ⟨v, tracker, counted⟩ := (cutStopped_progress cut).2 finished
  have same : lowerCounts (stoppedEntry h x s) v = lowerCounts x v := by
    simp only [lowerCounts, stoppedEntry, owner, linked]
  refine ⟨v, tracker, ?_⟩
  rw [same] at counted
  simpa only [stoppedEntry, owner, linked] using counted

/-- A tab that failed or was cut again after STOPPED, as the obligation reads it. -/
def TabFailed (h : Head) (i : Nat) (s t : State) : Prop :=
  (t.tab i).map Tab.state = some .failed ∧
    t.notice 7 = (s.notice 7).map (NoticeRec.raise (.tabFailed s.activeId i ((s.head h).cause.getD .hold).how))

/-- The tab is QUEUED, at the front of the head's queue unless a change begins (R92, R93, R109). -/
def CutAgain (h : Head) (i : Nat) (s t : State) : Prop :=
  (t.tab i).map Tab.state = some .queued ∧
    (t.due h = false → (t.head h).queue = i :: (s.head h).queue ∧ (t.tab i).map Tab.place = some (some (placeOf h)))

section
variable (cut : CutInHand h i x s) (hr : s.board .active x.owner = some r)
include cut

theorem cutStopped_standing (standing : x.standing = true) : ((cutStopped h rem s).tab i).map Tab.state = some .skipped := by
  obtain ⟨-, -, stands, -, -, -⟩ := x.stoppedBy_fields ((s.head h).cause.getD .hold)
  obtain ⟨w, -, -, settled, -⟩ := cutStopped_settles cut rem
  exact settled.standing (stands.trans standing)

include hr

/-- A plain tab after STOPPED (R93). -/
theorem cutStopped_plain (standing : x.standing = false) (release : x.release = false) :
    (s.param .maxAttempts ≤ (stoppedEntry h x s).attempts → TabFailed h i s (cutStopped h rem s) ∧
      (r.state = .attached → (cutStopped h rem s).boardState .active x.owner = some (.retained .tabFailed))) ∧
    ((stoppedEntry h x s).attempts < s.param .maxAttempts → CutAgain h i s (cutStopped h rem s)) := by
  obtain ⟨-, -, stands, releases, owner, -⟩ := x.stoppedBy_fields ((s.head h).cause.getD .hold)
  obtain ⟨w, ended, run, settled, -⟩ := cutStopped_settles cut rem
  refine ⟨fun tries => ?_, fun tries => ?_⟩
  · obtain ⟨state, told, boards⟩ := settled.plain_failed (stands.trans standing) (releases.trans release) tries
    exact ⟨⟨state, told⟩, fun hs => boards x.owner (.inl owner.symm) r hr (.inl hs)⟩
  · refine cutStopped_again cut rem ended rfl settled.tab ?_
    rw [run, settleTab_plain_again settled.tab (stands.trans standing) (releases.trans release)
      (by rw [settled.reads.param]; exact tries)]

/-- A release tab after STOPPED, its board RELEASING (R64, R94). -/
theorem cutStopped_releasing (standing : x.standing = false) (release : x.release = true) (hs : r.state = .releasing) :
    let t := cutStopped h rem s
    (s.earlyLift x.owner = .lifted → (t.tab i).map Tab.state = some .skipped ∧
      t.boardState .active x.owner = some (.lost .torn) ∧
      t.hand.service.map (fun v => (v.torn, v.dest)) = some (true, .bin)) ∧
    (s.earlyLift x.owner = .dropped → (t.tab i).map Tab.state = some .skipped ∧
      t.boardState .active x.owner = some (.lost .torn) ∧ t.hand.service = none) ∧
    (s.earlyLift x.owner = .out → (t.tab i).map Tab.state = some .held ∧ t.boardState .active x.owner = some .releasing ∧
      (t.tab i).map Tab.settlement = some (some ⟨h, true, ((s.head h).cause.getD .hold).how⟩) ∧
      (t.node .picker).order = .stay s.activeId x.owner) ∧
    (s.earlyLift x.owner = .none →
      (s.abortMarked = true → (t.tab i).map Tab.state = some .skipped ∧
        t.boardState .active x.owner = some (.retained .aborted)) ∧
      (s.abortMarked = false → s.param .maxAttempts ≤ (stoppedEntry h x s).attempts →
        TabFailed h i s t ∧ t.boardState .active x.owner = some (.retained .tabFailed)) ∧
      (s.abortMarked = false → (stoppedEntry h x s).attempts < s.param .maxAttempts →
        CutAgain h i s t ∧ t.boardState .active x.owner = some .gripped)) := by
  obtain ⟨-, -, stands, releases, owner, -⟩ := x.stoppedBy_fields ((s.head h).cause.getD .hold)
  obtain ⟨w, ended, run, settled, -⟩ := cutStopped_settles cut rem
  have owner : (stoppedEntry h x s).owner = x.owner := owner
  have hr : s.board .active (stoppedEntry h x s).owner = some r := by rw [owner]; exact hr
  obtain ⟨lifted, dropped, out, waits⟩ := settled.releasing (stands.trans standing) (releases.trans release) hr hs
  rw [owner] at lifted dropped out waits
  refine ⟨lifted, dropped, out, fun early => ⟨(waits early).1, fun mark tries => ?_, fun mark tries => ?_⟩⟩
  · obtain ⟨state, told, board⟩ := (waits early).2 mark tries
    exact ⟨⟨state, told⟩, board⟩
  · obtain ⟨again, entry, gripped⟩ := settled.release_again (stands.trans standing) (releases.trans release) hr hs
      (by rw [owner]; exact early) mark tries
    obtain ⟨a, b, written⟩ := setBoardState_tracker w .active (stoppedEntry h x s).owner .gripped
    rw [owner] at gripped
    exact ⟨cutStopped_again cut rem ended (by rw [written]) entry (by rw [run, again]), gripped⟩

/-- A release tab after STOPPED, its board READY by a picker's fault (R66). -/
theorem cutStopped_ready (standing : x.standing = false) (release : x.release = true) (hs : r.state = .ready)
    (early : s.earlyLift x.owner = .none) : ((cutStopped h rem s).tab i).map Tab.state = some .held ∧
      (cutStopped h rem s).boardState .active x.owner = some .ready ∧ (cutStopped h rem s).tracker.pickQueue =
        if x.owner ∈ s.tracker.pickQueue then s.tracker.pickQueue else x.owner :: s.tracker.pickQueue := by
  obtain ⟨-, -, stands, releases, owner, -⟩ := x.stoppedBy_fields ((s.head h).cause.getD .hold)
  obtain ⟨w, -, -, settled, -⟩ := cutStopped_settles cut rem
  have owner : (stoppedEntry h x s).owner = x.owner := owner
  have now := settled.ready (r := r) (stands.trans standing) (releases.trans release) (by rw [owner]; exact hr) hs
    (by rw [owner]; exact early)
  rw [owner] at now
  exact now

end

/-- A fault with the cut in hand (R74, R95). -/
theorem headFault_cutFault (cut : CutInHand h i x s) : headFaulted h .cutFault s (headFault h .cutFault s) = true := by
  obtain ⟨w, t, -, -, run, -, taken, -, -⟩ := headFault_settles cut
  rw [run]
  exact taken.faulted

end

end Sys2Proof.Machine
end

section
/-! A head's orders with no tab in hand: the STOP that CELL_RESET wrote, and PARK (R96, R97, R105). -/

namespace Sys2Proof.Machine

section
variable {s t u : State} {h : Head} {why : FaultReason}

/-- The tab list is as it was when each entry is. -/
theorem tabs_of_entries (entries : ∀ j, t.tab j = s.tab j) : t.disp.tabs = s.disp.tabs := List.ext_getElem? entries

/-! ### The STOP of CELL_RESET -/

/-- The end of a cut that names no tab: the bit is charged, and the head is IDLE or begins the change that is due (R97, R109). -/
def resetEnded (h : Head) (rem : Option Nat) (s : State) : State := headIdle h (endHead h (accountAbort h rem s))

theorem cutStopped_unnamed (names : (s.head h).tab = none) (rem : Nat) : cutStopped h rem s = resetEnded h (some rem) s := by
  simp only [cutStopped, names, resetEnded]

theorem cutDone_unnamed (names : (s.head h).tab = none) : cutDone h s = resetEnded h none s := by
  simp only [cutDone, names, resetEnded]

theorem accountAbort_spindle (h : Head) (rem : Option Nat) (s : State) : ∃ sp : Spindle,
    accountAbort h rem s = { s with spindle := sp } := by
  obtain ⟨sp, charge, -⟩ := chargeBit_spindle h _ s
  exact ⟨sp, charge⟩

theorem resetEnded_due {rem : Option Nat} (due : (accountAbort h rem s).due h = true) :
    ((resetEnded h rem s).head h).state = .changing ∨ ((resetEnded h rem s).head h).state = .noTool :=
  headIdle_due (s := endHead h (accountAbort h rem s)) due

theorem resetEnded_idle {rem : Option Nat} (names : (s.head h).tab = none) (due : (accountAbort h rem s).due h = false) :
    resetEnded h rem s =
      (accountAbort h rem s).setHead h { s.head h with state := .idle, cause := none, timer := none } := by
  obtain ⟨sp, charge⟩ := accountAbort_spindle h rem s
  have head : (accountAbort h rem s).head h = s.head h := by rw [charge]; rfl
  have free : setHeadState h .idle (endHead h (accountAbort h rem s)) = (accountAbort h rem s).setHead h
      { (accountAbort h rem s).head h with state := .idle, tab := none, cause := none, timer := none } := by
    cases h <;> rfl
  rw [resetEnded, headIdle_idle (s := endHead h (accountAbort h rem s)) due, free, head, ← names]

theorem resetEnded_keeps {rem : Option Nat} (state : (s.head h).state = .stopping) :
    (resetEnded h rem s).tracker = s.tracker ∧ (resetEnded h rem s).hand = s.hand ∧
    ((s.head h).queue = [] → (resetEnded h rem s).disp.tabs = s.disp.tabs) := by
  obtain ⟨sp, charge⟩ := accountAbort_spindle h rem s
  have own := headIdle_own h (endHead h (accountAbort h rem s))
  have head : (endHead h (accountAbort h rem s)).head h = { s.head h with tab := none, cause := none, timer := none } := by
    rw [endHead, State.modHead, State.setHead_head, charge]
    rfl
  have before (j : Nat) : (endHead h (accountAbort h rem s)).tab j = s.tab j := by rw [charge]; rfl
  refine ⟨own.tracker.trans (by rw [charge]; rfl), own.hand.trans (by rw [charge]; rfl), fun queue => ?_⟩
  refine tabs_of_entries fun j => (headIdle_tab (by rw [head]; dsimp only; rw [state]; rfl) ?_).trans (before j)
  rw [head]
  dsimp only
  rw [queue]
  exact List.not_mem_nil

/-- A fault of a head whose cut names no tab: the cut is charged alone (R95, R97). -/
theorem headFault_unnamed (state : (s.head h).state = .stopping) (names : (s.head h).tab = none) :
    headFaulted h .cutFault s (headFault h .cutFault s) = true ∧ (headFault h .cutFault s).tracker = s.tracker ∧
    (headFault h .cutFault s).hand = s.hand ∧
    ((s.head h).queue = [] → (headFault h .cutFault s).disp.tabs = s.disp.tabs) := by
  have faulting := faulting_head s h .cutFault
  have taken := faulting_taken s h .cutFault
  obtain ⟨mm, run⟩ := faultCut_unnamed (h := h) (why := .cutFault) (s := s.faulting h .cutFault) (by rw [faulting]; exact names)
  obtain ⟨sp, charge, -⟩ := chargeBit_spindle h mm (endHead h (s.faulting h .cutFault))
  rw [charge] at run
  have head : (faultCut h .cutFault (s.faulting h .cutFault)).head h =
      { (s.faulting h .cutFault).head h with tab := none, cause := none, timer := none } := by
    rw [run]
    exact State.setHead_head _ h _
  have left := leaveService_own h (faultCut h .cutFault (s.faulting h .cutFault))
  have ended : FaultTaken h .cutFault s (faultCut h .cutFault (s.faulting h .cutFault)) :=
    taken.keeps (by rw [head]) (by rw [head]) (by rw [head]) (by rw [run]; rfl) (by rw [run]; rfl)
  rw [headFault_cut (.inr state) (by decide)]
  refine ⟨ended.leaves.faulted, left.tracker.trans (by rw [run]; rfl), left.hand.trans (by rw [run]; rfl), fun queue => ?_⟩
  refine tabs_of_entries fun j => (leaveService_tab ?_).trans (by rw [run]; rfl)
  rw [head, faulting]
  dsimp only
  rw [queue]
  exact List.not_mem_nil

theorem headCompleted_reset_ends {res : Result} {rem : Nat} (state : (s.head h).state = .stopping)
    (names : (s.head h).tab = none) (ends : res = .stopped ∨ res = .alreadyDone) :
    headCompleted h .stop res rem s = resetEnded h (if res = .stopped then some rem else none) s := by
  rcases ends with rfl | rfl
  · simp only [headCompleted, state, cutStopped_unnamed names, if_true]
  · simp only [headCompleted, state, cutDone_unnamed names, reduceCtorEq, if_false]

theorem headCompleted_reset_fails {res : Result} {rem : Nat} (state : (s.head h).state = .stopping)
    (stopped : res ≠ .stopped) (done : res ≠ .alreadyDone) : headCompleted h .stop res rem s = headFault h .cutFault s :=
  headCompleted_fails (.inr ⟨state, rfl⟩) (by rw [EndsDone, if_pos rfl]; exact done) fun e => stopped e.2

/-- What any end of that STOP leaves: the tracker and the handover unit, and the tabs where none waits in the head's queue. -/
theorem headCompleted_reset_keeps (res : Result) (rem : Nat) (state : (s.head h).state = .stopping)
    (names : (s.head h).tab = none) : ((s.head h).queue = [] → (headCompleted h .stop res rem s).disp.tabs = s.disp.tabs) ∧
      (headCompleted h .stop res rem s).tracker = s.tracker ∧ (headCompleted h .stop res rem s).hand = s.hand := by
  by_cases ends : res = .stopped ∨ res = .alreadyDone
  · obtain ⟨tracker, hand, tabs⟩ := resetEnded_keeps (rem := if res = .stopped then some rem else none) state
    rw [headCompleted_reset_ends state names ends]
    exact ⟨tabs, tracker, hand⟩
  · obtain ⟨stopped, done⟩ := not_or.1 ends
    obtain ⟨-, tracker, hand, tabs⟩ := headFault_unnamed state names
    rw [headCompleted_reset_fails state stopped done]
    exact ⟨tabs, tracker, hand⟩

/-! ### PARK -/

/-- A PARK that completes OK (R96, R109). -/
theorem parkOk_ends (s : State) (h : Head) : let t := headIdle h (s.modHead h fun r => { r with timer := none })
    (t.head h).timer = none ∧
    (s.due h = true → (t.head h).state = .changing ∨ (t.head h).state = .noTool) ∧
    (s.due h = false → t = s.setHead h { s.head h with state := .idle, timer := none }) := by
  set w := s.modHead h fun r => { r with timer := none } with hw
  have timer : (w.head h).timer = none := congrArg HeadRec.timer (State.setHead_head s h _)
  have kept := (headIdle_own h w).kept h
  refine ⟨((congrArg HeadRec.timer kept :)).trans timer, fun due => headIdle_due (s := w) due, fun due => ?_⟩
  rw [headIdle_idle (s := w) due, hw]
  cases h <;> rfl

/-- A head that faults while PARKING (R74, R96). -/
theorem headFault_park (state : (s.head h).state = .parking) : headFaulted h .parkFault s (headFault h .parkFault s) = true := by
  have run : headFault h .parkFault s = raise (.headFault h .parkFault) (leaveService h (s.faulting h .parkFault)) := by
    simp [headFault, state, HeadState.inService]
    rfl
  rw [run]
  exact (faulting_taken s h .parkFault).leaves.faulted

end

end Sys2Proof.Machine
end

section
/-! The rack and the change records under the heads' work on bits (R110, R111, R115). -/

namespace Sys2Proof.Machine

/-- What of a change record the choice of a bit and the writing of TOOL keep: the outgoing position and whether it was returned. -/
def Change.keys (c : Change) : Option Nat × Bool := (c.outgoing, c.returned)

/-- Of the rack only SPARE positions change, and only in their engagement. -/
def RackWork (s t : State) : Prop :=
  ∀ i p, s.rackAt i = some p → ∃ e, t.rackAt i = some { p with engaged := e } ∧ (p.mode = .spare ∨ e = p.engaged)

section
variable {s t u : State} {h k : Head}

theorem RackWork.of_rack (same : t.spindle.rack = s.spindle.rack) : RackWork s t := fun i p hp =>
  ⟨p.engaged, by rw [State.rackAt, same]; exact hp, .inr rfl⟩

theorem RackWork.refl (s : State) : RackWork s s := .of_rack rfl

theorem RackWork.trans (a : RackWork s t) (b : RackWork t u) : RackWork s u := fun i p hp => by
  obtain ⟨e, ht, first⟩ := a i p hp
  obtain ⟨e', hu, second⟩ := b i _ ht
  refine ⟨e', hu, ?_⟩
  rcases first with spare | same
  · exact .inl spare
  · exact second.imp id fun e => e.trans same

/-- A position that is not SPARE stays. -/
theorem RackWork.keeps (work : RackWork s t) {i : Nat} {p : RackPos} (hp : s.rackAt i = some p) (mode : p.mode ≠ .spare) :
    t.rackAt i = some p := by
  obtain ⟨e, ht, spare | same⟩ := work i p hp
  · exact absurd spare mode
  · rw [ht, same]

theorem State.modRack_rackAt (i j : Nat) (f : RackPos → RackPos) (s : State) :
    (s.modRack i f).rackAt j = if i = j then (s.rackAt j).map f else s.rackAt j := by
  rw [State.rackAt, State.modRack_spindle, List.getElem?_modify]
  split
  · rfl
  · exact Option.map_id'

/-! ### The choice of a bit (R110) -/

theorem foldl_lessWorn_mem (l : List (Nat × RackPos)) (best q : Nat × RackPos)
    (chosen : l.foldl lessWorn (some best) = some q) : q = best ∨ q ∈ l := by
  induction l generalizing best with
  | nil => exact .inl (Option.some.inj chosen).symm
  | cons a l ih =>
    rw [List.foldl_cons, lessWorn] at chosen
    split at chosen
    · exact .inr (List.mem_cons.2 (ih a chosen))
    · exact (ih best chosen).imp id (List.mem_cons_of_mem a)

theorem leastWorn_mem {l : List (Nat × RackPos)} {i : Nat} (chosen : leastWorn l = some i) : ∃ p, (i, p) ∈ l := by
  cases l with
  | nil => exact absurd chosen nofun
  | cons a l =>
    obtain ⟨q, hq, rfl⟩ := Option.map_eq_some_iff.1 chosen
    rcases foldl_lessWorn_mem l a q hq with rfl | mem
    · exact ⟨q.2, List.mem_cons_self⟩
    · exact ⟨q.2, List.mem_cons_of_mem a mem⟩

/-- A chosen position is SPARE. -/
theorem chooseBit_spare {c : Change} {i : Nat} (chosen : s.chooseBit h c = some i) :
    ∃ p, s.rackAt i = some p ∧ p.mode = .spare := by
  obtain ⟨p, mem⟩ := leastWorn_mem chosen
  have candidate : (i, p) ∈ s.candidates c := by
    (repeat' split at mem) <;> first
      | exact mem
      | exact (List.mem_filter.1 mem).1
      | exact absurd mem List.not_mem_nil
  obtain ⟨listed, fits⟩ := List.mem_filter.1 candidate
  obtain ⟨q, numbered, same⟩ := List.mem_map.1 listed
  have position : s.spindle.rack[i]? = some p := by
    have found := List.mem_zipIdx_iff_getElem?.1 numbered
    obtain ⟨rfl, rfl⟩ := Prod.mk.inj same
    exact found
  exact ⟨p, position, by simp [RackPos.candidate] at fits; exact fits.1.1.1⟩

/-! ### Work on tabs leaves the spindle monitor -/

theorem reassign_spindle (s : State) (i : Nat) : (reassign s i).spindle = s.spindle := by
  unfold reassign
  split
  · exact (putTab_rest _ _ _ _).2.2.2.2.2.2.2
  · rfl

theorem foldl_spindle {f : State → Nat → State} (hf : ∀ s i, (f s i).spindle = s.spindle) (l : List Nat) (s : State) :
    (l.foldl f s).spindle = s.spindle := by
  induction l generalizing s with
  | nil => rfl
  | cons i l ih => rw [List.foldl_cons, ih, hf]

theorem putTab_spindle (i : Nat) (p : Place) (front : Bool) (s : State) : (putTab i p front s).spindle = s.spindle := by
  obtain ⟨-, -, -, -, -, -, -, spindle⟩ := putTab_rest i p front s
  exact spindle

theorem evalPairing_spindle (s : State) : (evalPairing s).spindle = s.spindle := by
  obtain ⟨-, -, spindle, -⟩ := evalPairing_rest s
  exact spindle

theorem moveOut_spindle (h : Head) (s : State) : (moveOut h s).spindle = s.spindle := by
  have moves (l : List Nat) (w : State) := foldl_spindle reassign_spindle l w
  unfold moveOut
  dsimp only
  (repeat' split) <;> first
    | exact moves _ _
    | exact (moves _ _).trans (putTab_spindle _ _ _ _)

theorem leaveService_spindle (h : Head) (s : State) : (leaveService h s).spindle = s.spindle := by
  unfold leaveService
  dsimp only
  split
  · rfl
  · exact (evalPairing_spindle _).trans (moveOut_spindle h _)

theorem takeUnassigned_spindle (h : Head) (s : State) (i : Nat) : (takeUnassigned h s i).spindle = s.spindle := by
  unfold takeUnassigned
  (repeat' split) <;> first
    | exact putTab_spindle _ _ _ _
    | rfl

theorem enterService_spindle (h : Head) (s : State) : (enterService h s).spindle = s.spindle :=
  (evalPairing_spindle _).trans (foldl_spindle (takeUnassigned_spindle h) _ s)

/-! ### A position engaged (R110, R111) -/

theorem State.setChange_change_ne (hk : k ≠ h) (c : Option Change) (s : State) : (s.setChange h c).change k = s.change k :=
  PerHead.get_set_ne _ _ _ _ hk

theorem writeTool_spindle (h : Head) (s : State) : (writeTool h s).spindle.rack = s.spindle.rack ∧
    (writeTool h s).spindle.waiting = s.spindle.waiting ∧ (∀ k, k ≠ h → (writeTool h s).change k = s.change k) ∧
    ((writeTool h s).change h).map Change.keys = (s.change h).map Change.keys := by
  have stays : s.spindle.rack = s.spindle.rack ∧ s.spindle.waiting = s.spindle.waiting ∧
      (∀ k, k ≠ h → s.change k = s.change k) ∧ (s.change h).map Change.keys = (s.change h).map Change.keys :=
    ⟨rfl, rfl, fun _ _ => rfl, rfl⟩
  unfold writeTool
  split
  · next c hc =>
    split
    · split
      · refine ⟨rfl, rfl, fun k hk => State.setChange_change_ne hk _ _, ?_⟩
        rw [State.setChange_change, hc]
        rfl
      · exact stays
    · exact stays
  · exact stays

/-- What an engagement by head h does to the rack, the change records and the heads. -/
structure Engages (h : Head) (c : Change) (i : Nat) (s t : State) : Prop where
  rack : t.spindle.rack = (s.modRack i fun p => { p with engaged := some h }).spindle.rack
  waiting : t.spindle.waiting = s.spindle.waiting
  change : (t.change h).map Change.keys = some c.keys
  changes : ∀ k, k ≠ h → t.change k = s.change k
  state : (t.head h).state = .changing
  others : ∀ k, k ≠ h → (t.head k).bare = (s.head k).bare

theorem engage_engages (h : Head) (c : Change) (i : Nat) (s : State) : Engages h c i s (engage h c i s) := by
  set v := setHeadState h .changing ((s.modRack i fun p => { p with engaged := some h }).setChange h
    (some { c with fetch := some i, state := .awaitingRun, timer := none })) with hv
  set w := if (s.head h).state.inService then v else enterService h v with hw
  have run : engage h c i s = writeTool h w := rfl
  have spindle : w.spindle = v.spindle := by
    rw [hw]
    split
    · rfl
    · exact enterService_spindle h v
  have heads (k : Head) : (w.head k).bare = (v.head k).bare := by
    rw [hw]
    split
    · rfl
    · exact enterService_head h k v
  obtain ⟨rack, waiting, changes, change⟩ := writeTool_spindle h w
  rw [run]
  refine ⟨rack.trans (by rw [spindle]; rfl), waiting.trans (by rw [spindle]; rfl), change.trans ?_, fun k hk => (changes k hk).trans ?_,
    engage_state h c i s, fun k hk => ?_⟩
  · rw [State.change, spindle]
    exact congrArg (Option.map Change.keys)
      (State.setChange_change h _ (s.modRack i fun p => { p with engaged := some h }))
  · rw [State.change, spindle]
    exact State.setChange_change_ne hk _ (s.modRack i fun p => { p with engaged := some h })
  · rw [writeTool_head, heads, hv, setHeadState, State.modHead, State.setHead_head_ne _ _ _ _ hk]
    rfl

theorem Engages.work {c : Change} {i : Nat} (engages : Engages h c i s t) {p : RackPos} (hp : s.rackAt i = some p)
    (spare : p.mode = .spare) : RackWork s t := fun j q hq => by
  have now : t.rackAt j = (s.modRack i fun p => { p with engaged := some h }).rackAt j := by
    rw [State.rackAt, engages.rack, State.rackAt]
  rw [now, State.modRack_rackAt]
  split
  · next e =>
    subst e
    cases hp.symm.trans hq
    exact ⟨some h, by rw [hq]; rfl, .inl spare⟩
  · exact ⟨q.engaged, hq, .inr rfl⟩

/-! ### The waiting list served (R115) -/

/-- A head that is not served. -/
structure Unserved (h : Head) (s t : State) : Prop where
  change : t.change h = s.change h
  head : (t.head h).bare = (s.head h).bare

theorem serveOne_rack (s : State) (k : Head) : RackWork s (serveOne s k) := by
  unfold serveOne
  split
  · exact .refl s
  · next c hc =>
    split
    · next i chosen =>
      obtain ⟨p, hp, spare⟩ := chooseBit_spare chosen
      set v : State := { s with spindle := { s.spindle with waiting := s.spindle.waiting.filter (· != k) } }
      exact (engage_engages k c i v).work (s := v) hp spare
    · exact .refl s

theorem serveOne_unserved (hk : h ≠ k) : Unserved h s (serveOne s k) := by
  unfold serveOne
  split
  · exact ⟨rfl, rfl⟩
  · next c hc =>
    split
    · next i chosen =>
      set v : State := { s with spindle := { s.spindle with waiting := s.spindle.waiting.filter (· != k) } }
      have engages := engage_engages k c i v
      exact ⟨engages.changes h hk, engages.others h hk⟩
    · exact ⟨rfl, rfl⟩

theorem serveOne_own_change (s : State) (h : Head) :
    ((serveOne s h).change h).map Change.keys = (s.change h).map Change.keys ∧
    (serveOne s h = s ∨ ((serveOne s h).head h).state = .changing) := by
  unfold serveOne
  split
  · exact ⟨rfl, .inl rfl⟩
  · next c hc =>
    split
    · next i chosen =>
      set v : State := { s with spindle := { s.spindle with waiting := s.spindle.waiting.filter (· != h) } }
      have engages := engage_engages h c i v
      exact ⟨engages.change.trans (by rw [hc]; rfl), .inr engages.state⟩
    · exact ⟨rfl, .inl rfl⟩

theorem serveList_rack (s : State) : RackWork s (serveList s) := by
  have serves (l : List Head) (w : State) : RackWork w (l.foldl serveOne w) := by
    induction l generalizing w with
    | nil => exact .refl w
    | cons k l ih => exact (serveOne_rack w k).trans (ih _)
  exact serves _ s

/-- A head outside the waiting list is not served. -/
theorem serveList_unserved (out : h ∉ s.spindle.waiting) : Unserved h s (serveList s) := by
  have serves (l : List Head) (w : State) (hl : h ∉ l) : Unserved h w (l.foldl serveOne w) := by
    induction l generalizing w with
    | nil => exact ⟨rfl, rfl⟩
    | cons k l ih =>
      obtain ⟨hk, hl⟩ := not_or.1 (mt List.mem_cons.2 hl)
      have first := serveOne_unserved (s := w) hk
      have rest := ih (serveOne w k) hl
      exact ⟨rest.change.trans first.change, rest.head.trans first.head⟩
  exact serves _ s out

/-- A head that is CHANGING or NO_TOOL stays so, with its outgoing position and whether it was returned. -/
structure ChangeGoesOn (h : Head) (s t : State) : Prop where
  change : (t.change h).map Change.keys = (s.change h).map Change.keys
  state : (s.head h).state = .changing ∨ (s.head h).state = .noTool → (t.head h).state = .changing ∨ (t.head h).state = .noTool

theorem serveList_goesOn (h : Head) (s : State) : ChangeGoesOn h s (serveList s) := by
  have one (w : State) (k : Head) : ChangeGoesOn h w (serveOne w k) := by
    by_cases hk : h = k
    · subst hk
      obtain ⟨change, same | served⟩ := serveOne_own_change w h
      · exact ⟨change, by rw [same]; exact id⟩
      · exact ⟨change, fun _ => .inl served⟩
    · have stays := serveOne_unserved (s := w) hk
      exact ⟨by rw [stays.change], by rw [HeadRec.state_of_bare stays.head]; exact id⟩
  have serves (l : List Head) (w : State) : ChangeGoesOn h w (l.foldl serveOne w) := by
    induction l generalizing w with
    | nil => exact ⟨rfl, id⟩
    | cons k l ih => exact ⟨(ih _).change.trans (one w k).change, (ih _).state ∘ (one w k).state⟩
  exact serves _ s

/-- The choice of a bit, for a head with a change record (R110). -/
theorem pickBit_works {c : Change} (hc : s.change h = some c) : RackWork s (pickBit h s) ∧
    ((pickBit h s).change h).map Change.keys = some c.keys := by
  unfold pickBit
  rw [hc]
  dsimp only
  split
  · next i chosen =>
    obtain ⟨p, hp, spare⟩ := chooseBit_spare chosen
    have engages := engage_engages h c i s
    exact ⟨engages.work hp spare, engages.change⟩
  · set w := if (s.head h).state.inService = true then s else enterService h (setHeadState h .changing s) with hw
    have spindle : w.spindle = s.spindle := by
      rw [hw]
      split
      · rfl
      · exact enterService_spindle h _
    refine ⟨.of_rack ?_, ?_⟩
    · rw [leaveService_spindle]
      exact (congrArg Spindle.rack spindle :)
    · rw [State.change, leaveService_spindle]
      have change : w.change h = some c := by rw [State.change, spindle]; exact hc
      exact congrArg (Option.map Change.keys) change

end

end Sys2Proof.Machine
end

section
/-! The ends of a TOOL order (R112 to R114, R116). -/

namespace Sys2Proof.Machine

/-- The bit put back (R116), as the obligation reads it: its return state, no head and no broken mark, its wear and cuts as they
were, and TOOL_WORN where it is WORN. -/
def Returned (h : Head) (c : Change) (s t : State) : Prop :=
  c.returned = false → ∀ i p, c.outgoing = some i → s.rackAt i = some p →
    (t.rackAt i).map (fun y => (y.mode, y.head, y.brokenMark, y.wear, y.cuts)) =
        some (p.returnMode (s.param .bitLife), none, false, p.wear, p.cuts) ∧
      t.notice 19 = if p.returnMode (s.param .bitLife) = .worn then
        (s.notice 19).map (NoticeRec.raise (.toolWorn i h p.wear p.cuts)) else s.notice 19

/-- A fetch position once the bit was fetched (R112). -/
def RackPos.fetched (h : Head) (p : RackPos) : RackPos :=
  { p with mode := .mounted, head := some h, brokenMark := false, engaged := none }

/-- A fetch position that held no bit (R113). -/
def RackPos.emptied (p : RackPos) : RackPos := { p with mode := .empty, engaged := none }

section
variable {s t u : State} {h : Head} {c : Change} {f : Nat} {q : RackPos}

/-! ### The bit put back (R116) -/

/-- A bit put back changes the rack and TOOL_WORN's notice alone. -/
theorem returnBit_rest (h : Head) (c : Change) (s : State) : ∃ rack n,
    returnBit h c s = { s with spindle := { s.spindle with rack := rack }, notices := n } ∧
      ∀ k, k ≠ 19 → n.recs[k]? = s.notices.recs[k]? := by
  unfold returnBit
  split
  · exact ⟨_, _, rfl, fun _ _ => rfl⟩
  split
  · exact ⟨_, _, rfl, fun _ _ => rfl⟩
  · dsimp only
    split
    · exact ⟨_, _, rfl, fun k hk => (raise_notice _ s k).trans (if_neg (Ne.symm hk))⟩
    · exact ⟨_, _, rfl, fun _ _ => rfl⟩

theorem returnBit_rackAt_ne {j : Nat} (apart : c.outgoing ≠ some j) : (returnBit h c s).rackAt j = s.rackAt j := by
  unfold returnBit
  split
  · rfl
  · next i back =>
    have out : c.outgoing = some i := by
      unfold Change.toReturn at back
      split at back
      · exact absurd back nofun
      · exact back
    have other : i ≠ j := fun e => apart (e ▸ out)
    split
    · rfl
    · have kept (g : RackPos → RackPos) := (State.modRack_rackAt i j g s).trans (if_neg other)
      dsimp only
      split <;> exact kept _

theorem returnBit_entry {i : Nat} {p : RackPos} (first : c.returned = false) (out : c.outgoing = some i)
    (hp : s.rackAt i = some p) :
    (returnBit h c s).rackAt i =
        some { p with mode := p.returnMode (s.param .bitLife), head := none, brokenMark := false } ∧
      (returnBit h c s).notice 19 = if p.returnMode (s.param .bitLife) = .worn then
        (s.notice 19).map (NoticeRec.raise (.toolWorn i h p.wear p.cuts)) else s.notice 19 := by
  have back : c.toReturn = some i := by simp [Change.toReturn, first, out]
  have entry := State.modRack_rackAt i i
    (fun p' => { p' with mode := p.returnMode (s.param .bitLife), head := none, brokenMark := false }) s
  rw [if_pos rfl, hp] at entry
  unfold returnBit
  simp only [back, hp]
  split
  · exact ⟨entry, (raise_notice_once (.toolWorn i h p.wear p.cuts) s 19).trans (if_pos rfl)⟩
  · exact ⟨entry, rfl⟩

/-- The bit put back is as it was returned, once the fetch position is written and the waiting list served. -/
theorem returned_after {g : RackPos → RackPos} (apart : c.outgoing ≠ some f)
    (work : RackWork ((returnBit h c s).modRack f g) t) (told : t.notice 19 = (returnBit h c s).notice 19) :
    Returned h c s t := fun first i p out hp => by
  obtain ⟨entry, notice⟩ := returnBit_entry (h := h) first out hp
  have other : f ≠ i := fun e => apart (e ▸ out)
  obtain ⟨e, now, -⟩ := work i _ (((State.modRack_rackAt f i g _).trans (if_neg other)).trans entry)
  exact ⟨by rw [now]; rfl, told.trans notice⟩

/-- The fetch position is as the end of the order wrote it. -/
theorem fetched_after {g : RackPos → RackPos} (apart : c.outgoing ≠ some f) (hq : s.rackAt f = some q)
    (mode : (g q).mode ≠ .spare) (work : RackWork ((returnBit h c s).modRack f g) t) : t.rackAt f = some (g q) :=
  work.keeps (by rw [State.modRack_rackAt, if_pos rfl, returnBit_rackAt_ne apart, hq]; rfl) mode

/-! ### OK (R112) -/

/-- The state in which a TOOL that completed OK leaves the head, before the waiting list is served. -/
def toolFetched (h : Head) (c : Change) (f : Nat) (s : State) : State :=
  evalPairing (setHeadState h .idle
    ((((returnBit h c s).modRack f (RackPos.fetched h)).setChange h none).setDue h false))

theorem toolOk_eq (fetch : c.fetch = some f) :
    toolOk h c s = if s.returnsSpare c then serveList (toolFetched h c f s) else toolFetched h c f s := by
  unfold toolOk
  simp only [fetch]
  rfl

theorem returnBit_waiting (h : Head) (c : Change) (s : State) : (returnBit h c s).spindle.waiting = s.spindle.waiting := by
  obtain ⟨rack, n, run, -⟩ := returnBit_rest h c s
  rw [run]

theorem toolFetched_spindle : (toolFetched h c f s).spindle =
    ((((returnBit h c s).modRack f (RackPos.fetched h)).setChange h none).setDue h false).spindle :=
  evalPairing_spindle _

theorem toolFetched_notice : (toolFetched h c f s).notice 19 = (returnBit h c s).notice 19 :=
  (evalPairing_own _).notice 19 (by decide) (by decide)

/-- A TOOL that completes OK (R112, R116). -/
theorem toolOk_ends (fetch : c.fetch = some f) (hq : s.rackAt f = some q) (apart : c.outgoing ≠ some f)
    (out : h ∉ s.spindle.waiting) : ((toolOk h c s).head h).state = .idle ∧ (toolOk h c s).change h = none ∧
      (toolOk h c s).due h = false ∧ (toolOk h c s).rackAt f = some (q.fetched h) ∧ Returned h c s (toolOk h c s) := by
  set w := toolFetched h c f s with hw
  have own : OwnWork w (toolOk h c s) := by
    rw [toolOk_eq fetch]
    split
    · exact serveList_own w
    · exact .refl w
  have waiting : h ∉ w.spindle.waiting := by
    rw [hw, toolFetched_spindle]
    exact (returnBit_waiting h c s).symm ▸ out
  have served : RackWork w (toolOk h c s) ∧ Unserved h w (toolOk h c s) := by
    rw [toolOk_eq fetch]
    split
    · exact ⟨serveList_rack w, serveList_unserved waiting⟩
    · exact ⟨.refl w, rfl, rfl⟩
  obtain ⟨work, stays⟩ := served
  have state : (w.head h).state = .idle := by rw [hw, toolFetched, evalPairing_head, setHeadState_head]
  have change : w.change h = none := by
    rw [State.change, hw, toolFetched_spindle]
    exact State.setChange_change h none ((returnBit h c s).modRack f (RackPos.fetched h))
  have due : w.due h = false := by
    rw [State.due, hw, toolFetched_spindle]
    exact PerHead.get_set_self _ _ _
  have written : RackWork ((returnBit h c s).modRack f (RackPos.fetched h)) (toolOk h c s) :=
    (RackWork.of_rack (by rw [hw, toolFetched_spindle]; rfl)).trans work
  refine ⟨(HeadRec.state_of_bare stays.head).trans state, stays.change.trans change, ?_,
    fetched_after apart hq nofun written, returned_after apart written ?_⟩
  · rw [State.due, own.due]
    exact due
  · rw [own.notice 19 (by decide) (by decide), hw, toolFetched_notice]

/-! ### NO_BIT (R113) -/

/-- The change record after NO_BIT. -/
def Change.unfetched (c : Change) : Change := { c with returned := true, fetch := none, state := .awaitingRun, timer := none }

theorem toolNoBit_eq (fetch : c.fetch = some f) : toolNoBit h c s = serveList (pickBit h
    (((returnBit h c s).modRack f RackPos.emptied).setChange h (some c.unfetched))) := by
  unfold toolNoBit
  simp only [fetch]
  rfl

/-- A TOOL that completes NO_BIT (R113, R116). -/
theorem toolNoBit_ends (fetch : c.fetch = some f) (hq : s.rackAt f = some q) (apart : c.outgoing ≠ some f) :
    (((toolNoBit h c s).head h).state = .changing ∨ ((toolNoBit h c s).head h).state = .noTool) ∧
      (toolNoBit h c s).rackAt f = some q.emptied ∧
      ((toolNoBit h c s).change h).map Change.keys = some (c.outgoing, true) ∧ Returned h c s (toolNoBit h c s) := by
  set w := ((returnBit h c s).modRack f RackPos.emptied).setChange h (some c.unfetched) with hw
  have change : w.change h = some c.unfetched := State.setChange_change h _ _
  obtain ⟨picked, keys⟩ := pickBit_works change
  have goesOn := serveList_goesOn h (pickBit h w)
  have own := (pickBit_own h w).trans (serveList_own (pickBit h w))
  have work := picked.trans (serveList_rack (pickBit h w))
  rw [toolNoBit_eq fetch, ← hw]
  refine ⟨goesOn.state (pickBit_state change), fetched_after apart hq nofun work, goesOn.change.trans keys,
    returned_after apart work ?_⟩
  rw [own.notice 19 (by decide) (by decide)]
  rfl

/-! ### A fault of a CHANGING head (R114) -/

/-- A head in FAULT stays so under the heads' own work. -/
theorem headFaulted_after {why : FaultReason} (faulted : headFaulted h why s t = true) (own : OwnWork t u)
    (head : (u.head h).bare = (t.head h).bare) : headFaulted h why s u = true := by
  have state : (u.head h).state = (t.head h).state := HeadRec.state_of_bare head
  have reason : (u.head h).reason = (t.head h).reason := by have e := congrArg HeadRec.reason head; exact e
  have timer : (u.head h).timer = (t.head h).timer := by have e := congrArg HeadRec.timer head; exact e
  rw [headFaulted, state, reason, timer, own.latch, own.notice 2 (by decide) (by decide)]
  exact faulted

theorem failChange_written (hc : s.change h = some c) (written : c.state ≠ .awaitingRun) :
    failChange h s = (disengage c ((returnBit h c s).setDue h false)).setChange h none := by
  unfold failChange
  simp only [hc]
  rw [if_neg written]

theorem headFault_changing (state : (s.head h).state = .changing) : headFault h .tool s =
    serveList (raise (.headFault h .tool) (leaveService h (failChange h (s.faulting h .tool)))) := by
  simp [headFault, state, HeadState.inService]
  rfl

/-- Any other result of TOOL puts the head in FAULT (R114). -/
theorem headFault_tool (state : (s.head h).state = .changing) (hc : s.change h = some c) (written : c.state ≠ .awaitingRun)
    (out : h ∉ s.spindle.waiting) : headFaulted h .tool s (headFault h .tool s) = true := by
  set e := s.faulting h .tool with he
  obtain ⟨rack, n, run, notices⟩ := returnBit_rest h c e
  have failed : ∃ sp, failChange h e = { e with spindle := sp, notices := n } ∧ sp.waiting = s.spindle.waiting := by
    rw [failChange_written (s := e) hc written, run]
    unfold disengage
    split <;> exact ⟨_, rfl, rfl⟩
  obtain ⟨sp, failed, waiting⟩ := failed
  have taken : FaultTaken h .tool s (failChange h e) := by
    refine (faulting_taken s h .tool).keeps ?_ ?_ ?_ ?_ ?_ <;> rw [failed]
    · rfl
    · rfl
    · exact (faulting_taken s h .tool).timer
    · rfl
    · exact notices 2 (by decide)
  set w := raise (.headFault h .tool) (leaveService h (failChange h e)) with hw
  have stays : Unserved h w (serveList w) := by
    refine serveList_unserved ?_
    have kept : w.spindle = sp := (leaveService_spindle h (failChange h e)).trans (by rw [failed])
    rw [kept, waiting]
    exact out
  rw [headFault_changing state]
  exact headFaulted_after taken.leaves.faulted (serveList_own w) stays.head

/-! ### The order completed -/

theorem headCompleted_tool {f' cls : Nat} {o : Option Nat} {res : Result} {rem : Nat} (state : (s.head h).state = .changing)
    (hc : s.change h = some c) (written : c.state ≠ .awaitingRun) :
    (res = .ok → headCompleted h (.tool f' cls o) res rem s = toolOk h c s) ∧
    (res = .noBit → headCompleted h (.tool f' cls o) res rem s = toolNoBit h c s) ∧
    (res ≠ .ok → res ≠ .noBit → headCompleted h (.tool f' cls o) res rem s = headFault h .tool s) := by
  refine ⟨fun e => ?_, fun e => ?_, fun ok noBit => ?_⟩
  · subst e
    simp only [headCompleted, state, hc, if_neg written]
  · subst e
    simp only [headCompleted, state, hc, if_neg written]
  · cases res <;> first
      | exact absurd rfl ok
      | exact absurd rfl noBit
      | simp only [headCompleted, state, hc, if_neg written]

end

end Sys2Proof.Machine
end

section
/-! The settlement of what a head's completed order does to tab, board, head and rack. -/

namespace Sys2Proof.Machine

/-- Settles O60: by the order that completes. A cut in hand ends by DONE, by STOPPED with its tab settled row by row, or by the
head's fault; the STOP of CELL_RESET charges the bit alone; PARK and TOOL end or fault the head. -/
theorem headOrdersComplete : Obligations.HeadOrdersComplete := by
  refine ⟨fun h o res rem i x r s names hx hr out order => ?_, fun h res rem s names state => ?_,
    fun h x res rem s state => ?_, fun h f cls prev res rem c q s state hc written fetch hq apart out => ?_⟩
  · have cut : CutInHand h i x s := ⟨order.imp And.left And.left, names, hx, out⟩
    have order : AwaitsEnd h o s := order
    obtain ⟨attempts, feed, -⟩ := x.stoppedBy_fields ((s.head h).cause.getD .hold)
    have attempts : (stoppedEntry h x s).attempts = _ := attempts
    refine ⟨fun ends => ?_, fun done => ?_, fun stopped => ?_, fun done stopped => ?_⟩
    · rcases ends with done | ⟨rfl, rfl⟩
      · rw [headCompleted_done order done]
        obtain ⟨setup, tab, cause, timer, state⟩ := cutDone_freed cut
        obtain ⟨-, -, -, -, -, lowered⟩ := cutDone_ends cut
        exact ⟨setup, tab, cause, timer, state, fun _ linked b q joined hq => lowered.counts linked joined hq⟩
      · rw [headCompleted_stopped order]
        obtain ⟨setup, tab, cause, timer, state⟩ := cutStopped_freed (rem := rem) cut
        exact ⟨setup, tab, cause, timer, state,
          fun finished linked b q joined hq => (cutStopped_counts cut finished).counts linked joined hq⟩
    · rw [headCompleted_done order done]
      obtain ⟨-, -, -, -, entry, -⟩ := cutDone_ends cut
      exact ⟨entry, fun release => (cutDone_board cut hr release).1, fun release => (cutDone_board cut hr release).2⟩
    · obtain ⟨rfl, rfl⟩ := stopped
      rw [headCompleted_stopped order]
      have progress := (cutStopped_progress (rem := rem) cut).1
      have plain := cutStopped_plain (rem := rem) cut hr
      have releasing := cutStopped_releasing (rem := rem) cut hr
      rw [attempts] at plain releasing
      refine ⟨progress.trans (by rw [Tab.progress, attempts]; exact congrArg (fun n => some (_, n, _)) feed),
        cutStopped_standing cut, fun standing release => ?_, fun standing release hs => ?_,
        fun standing release hs early => cutStopped_ready cut hr standing release hs early⟩
      · obtain ⟨failed, again⟩ := plain standing release
        exact ⟨fun tries => ⟨(failed tries).1.1, (failed tries).1.2, (failed tries).2⟩, again⟩
      · obtain ⟨lifted, dropped, out, waits⟩ := releasing standing release hs
        refine ⟨lifted, dropped, out, fun early => ?_⟩
        obtain ⟨aborted, failed, again⟩ := waits early
        exact ⟨aborted, fun mark tries => ⟨(failed mark tries).1.1, (failed mark tries).1.2, (failed mark tries).2⟩, again⟩
    · rw [headCompleted_fails order done stopped]
      exact ⟨headFault_cutFault cut, headFault_cutSettled s h⟩
  · obtain ⟨tabs, tracker, hand⟩ := headCompleted_reset_keeps res rem state names
    refine ⟨fun ends => ?_, fun stopped done => ?_, tabs, tracker, hand, headCompleted_setup s h .stop res rem⟩
    · rw [headCompleted_reset_ends state names ends]
      exact ⟨resetEnded_idle names, resetEnded_due⟩
    · rw [headCompleted_reset_fails state stopped done]
      exact (headFault_unnamed state names).1
  · refine ⟨fun ok => ?_, fun fails => ?_⟩
    · obtain ⟨timer, due, idle⟩ := parkOk_ends s h
      have run : headCompleted h (.park x) res rem s = headIdle h (s.modHead h fun r => { r with timer := none }) := by
        simp only [headCompleted, state, if_pos ok]
      rw [run]
      exact ⟨by simp, timer, due, idle⟩
    · have run : headCompleted h (.park x) res rem s = headFault h .parkFault s := by
        simp only [headCompleted, state, if_neg fails]
      rw [run]
      exact headFault_park state
  · obtain ⟨fetched, emptied, failed⟩ := headCompleted_tool (f' := f) (cls := cls) (o := prev) (res := res) (rem := rem)
      state hc written
    refine ⟨fun ok => ?_, fun noBit => ?_, fun ok noBit => ?_⟩
    · rw [fetched ok]
      obtain ⟨idle, change, due, rack, returned⟩ := toolOk_ends fetch hq apart out
      exact ⟨toolOk_setup s h c, idle, change, due, rack, returned⟩
    · rw [emptied noBit]
      obtain ⟨goesOn, rack, keys, returned⟩ := toolNoBit_ends (h := h) fetch hq apart
      exact ⟨toolNoBit_setup s h c, goesOn, rack, keys, returned⟩
    · rw [failed ok noBit]
      exact headFault_tool state hc written out

end Sys2Proof.Machine
end
